-- ==== Sys2Proof/Word.lean ====
section
/-! DEFINITION. The two 8-bit data types of the block: an input byte and a SegmentPattern. -/

namespace Sys2Proof

/-- An input byte, unsigned, 0x00..0xFF (R81). -/
abbrev Byte := BitVec 8

/-- A SegmentPattern: bit 0 is the decimal point, bits 7..1 are the seven segments (R86). -/
abbrev Pattern := BitVec 8

end Sys2Proof
end

