-- ==== Sys2Proof/Syntax.lean ====
section
/-! DEFINITION. The instructions of the block: one constructor per row of spec/opcode_table.json (R94). The 80
supported byte codes and UNSUPPORTED come first, then the host transactions, then the internal operations. -/

namespace Sys2Proof

/-- The four output lines of the DigitalOutputBank, by role (R24, R230). -/
inductive Line where
  | data | clock | strobe | oe
  deriving DecidableEq, Repr

/-- One constructor per row of the opcode table. -/
inductive Instr where
  /-- Byte 0x2E, DOT_PERIOD (R115). -/
  | dotPeriod
  /-- Byte 0x3A, DOT_COLON (R116). -/
  | dotColon
  /-- Byte 0x30, DIGIT_0 (R117). -/
  | digit0
  /-- Byte 0x31, DIGIT_1 (R117). -/
  | digit1
  /-- Byte 0x32, DIGIT_2 (R117). -/
  | digit2
  /-- Byte 0x33, DIGIT_3 (R117). -/
  | digit3
  /-- Byte 0x34, DIGIT_4 (R117). -/
  | digit4
  /-- Byte 0x35, DIGIT_5 (R117). -/
  | digit5
  /-- Byte 0x36, DIGIT_6 (R117). -/
  | digit6
  /-- Byte 0x37, DIGIT_7 (R117). -/
  | digit7
  /-- Byte 0x38, DIGIT_8 (R117). -/
  | digit8
  /-- Byte 0x39, DIGIT_9 (R117). -/
  | digit9
  /-- Byte 0x61, LOWER_a (R118). -/
  | lowerA
  /-- Byte 0x62, LOWER_b (R118). -/
  | lowerB
  /-- Byte 0x63, LOWER_c (R118). -/
  | lowerC
  /-- Byte 0x64, LOWER_d (R118). -/
  | lowerD
  /-- Byte 0x65, LOWER_e (R118). -/
  | lowerE
  /-- Byte 0x66, LOWER_f (R118). -/
  | lowerF
  /-- Byte 0x67, LOWER_g (R118). -/
  | lowerG
  /-- Byte 0x68, LOWER_h (R118). -/
  | lowerH
  /-- Byte 0x69, LOWER_i (R118). -/
  | lowerI
  /-- Byte 0x6A, LOWER_j (R118). -/
  | lowerJ
  /-- Byte 0x6B, LOWER_k (R118). -/
  | lowerK
  /-- Byte 0x6C, LOWER_l (R118). -/
  | lowerL
  /-- Byte 0x6D, LOWER_m (R118). -/
  | lowerM
  /-- Byte 0x6E, LOWER_n (R118). -/
  | lowerN
  /-- Byte 0x6F, LOWER_o (R118). -/
  | lowerO
  /-- Byte 0x70, LOWER_p (R118). -/
  | lowerP
  /-- Byte 0x71, LOWER_q (R118). -/
  | lowerQ
  /-- Byte 0x72, LOWER_r (R118). -/
  | lowerR
  /-- Byte 0x73, LOWER_s (R118). -/
  | lowerS
  /-- Byte 0x74, LOWER_t (R118). -/
  | lowerT
  /-- Byte 0x75, LOWER_u (R118). -/
  | lowerU
  /-- Byte 0x76, LOWER_v (R118). -/
  | lowerV
  /-- Byte 0x77, LOWER_w (R118). -/
  | lowerW
  /-- Byte 0x78, LOWER_x (R118). -/
  | lowerX
  /-- Byte 0x79, LOWER_y (R118). -/
  | lowerY
  /-- Byte 0x7A, LOWER_z (R118). -/
  | lowerZ
  /-- Byte 0x41, UPPER_A (R119). -/
  | upperA
  /-- Byte 0x42, UPPER_B (R119). -/
  | upperB
  /-- Byte 0x43, UPPER_C (R119). -/
  | upperC
  /-- Byte 0x44, UPPER_D (R119). -/
  | upperD
  /-- Byte 0x45, UPPER_E (R119). -/
  | upperE
  /-- Byte 0x46, UPPER_F (R119). -/
  | upperF
  /-- Byte 0x47, UPPER_G (R119). -/
  | upperG
  /-- Byte 0x48, UPPER_H (R119). -/
  | upperH
  /-- Byte 0x49, UPPER_I (R119). -/
  | upperI
  /-- Byte 0x4A, UPPER_J (R119). -/
  | upperJ
  /-- Byte 0x4B, UPPER_K (R119). -/
  | upperK
  /-- Byte 0x4C, UPPER_L (R119). -/
  | upperL
  /-- Byte 0x4D, UPPER_M (R119). -/
  | upperM
  /-- Byte 0x4E, UPPER_N (R119). -/
  | upperN
  /-- Byte 0x4F, UPPER_O (R119). -/
  | upperO
  /-- Byte 0x50, UPPER_P (R119). -/
  | upperP
  /-- Byte 0x51, UPPER_Q (R119). -/
  | upperQ
  /-- Byte 0x52, UPPER_R (R119). -/
  | upperR
  /-- Byte 0x53, UPPER_S (R119). -/
  | upperS
  /-- Byte 0x54, UPPER_T (R119). -/
  | upperT
  /-- Byte 0x55, UPPER_U (R119). -/
  | upperU
  /-- Byte 0x56, UPPER_V (R119). -/
  | upperV
  /-- Byte 0x57, UPPER_W (R119). -/
  | upperW
  /-- Byte 0x58, UPPER_X (R119). -/
  | upperX
  /-- Byte 0x59, UPPER_Y (R119). -/
  | upperY
  /-- Byte 0x5A, UPPER_Z (R119). -/
  | upperZ
  /-- Byte 0x09, WS_HT (R120). -/
  | wsHt
  /-- Byte 0x0A, WS_LF (R120). -/
  | wsLf
  /-- Byte 0x0B, WS_VT (R120). -/
  | wsVt
  /-- Byte 0x0C, WS_FF (R120). -/
  | wsFf
  /-- Byte 0x0D, WS_CR (R120). -/
  | wsCr
  /-- Byte 0x20, WS_SP (R120). -/
  | wsSp
  /-- Byte 0x80, GLYPH_PLAY (R121). -/
  | glyphPlay
  /-- Byte 0x81, GLYPH_PAUSE (R122). -/
  | glyphPause
  /-- Byte 0x82, GLYPH_STOP (R123). -/
  | glyphStop
  /-- Byte 0x83, SEG_CENTER (R124). -/
  | segCenter
  /-- Byte 0x84, SEG_TOP (R125). -/
  | segTop
  /-- Byte 0x85, SEG_TOP_RIGHT (R126). -/
  | segTopRight
  /-- Byte 0x86, SEG_BOTTOM_RIGHT (R127). -/
  | segBottomRight
  /-- Byte 0x87, SEG_BOTTOM (R128). -/
  | segBottom
  /-- Byte 0x88, SEG_BOTTOM_LEFT (R129). -/
  | segBottomLeft
  /-- Byte 0x89, SEG_TOP_LEFT (R130). -/
  | segTopLeft
  /-- Any byte that no other row takes; it carries the byte (R131). -/
  | unsupported (c : Byte)
  /-- Host transaction Setup (R291). -/
  | setup
  /-- Host transaction Render(buf, len) (R150). -/
  | render (buf : List Byte) (len : Nat)
  /-- Host transaction HostWrite(buf) (R160). -/
  | hostwrite (buf : List Byte)
  /-- Internal operation renderFrame(In, len) (R151). -/
  | renderframe (buf : List Byte) (len : Nat)
  /-- Internal operation lookup(k) (R110). -/
  | lookup (k : Nat)
  /-- Internal operation classify(c) (R114). -/
  | classify (c : Byte)
  /-- Internal operation sendBit(b) (R190). -/
  | sendbit (b : Bool)
  /-- Internal operation sendByte(p) (R191). -/
  | sendbyte (p : Pattern)
  /-- Internal operation commit() (R192). -/
  | commit
  /-- Internal operation transmitFrame(F) (R193). -/
  | transmitframe (f : List Pattern)
  /-- Internal operation SetLine(line, v) (R231). -/
  | setline (line : Line) (v : Bool)
  deriving DecidableEq, Repr

/-- A host transaction as it stands on the transaction port (R93, R230). -/
inductive Txn where
  /-- `setup` -/
  | setup
  /-- `render "<bytes>", <len>` -/
  | render (buf : List Byte) (len : Nat)
  /-- `write "<bytes>"` -/
  | hostwrite (buf : List Byte)
  deriving DecidableEq, Repr

end Sys2Proof
end

