-- ==== Sys2Proof/WellFormed.lean ====
section
/-! DEFINITION. When a term of Instr is an instruction at all. Checks that need the state (a frame has N patterns, a
length is within the request's buffer at run time) are made by the meaning. -/

namespace Sys2Proof

/-- The byte ranges of R83 that are UNSUPPORTED with the default WHITESPACE_SET. -/
def isUnsupportedByte (c : Byte) : Bool :=
  let n := c.toNat
  n ≤ 0x08 || (0x0E ≤ n && n ≤ 0x1F) || (0x21 ≤ n && n ≤ 0x2D) || n == 0x2F || (0x3B ≤ n && n ≤ 0x40) ||
    (0x5B ≤ n && n ≤ 0x60) || (0x7B ≤ n && n ≤ 0x7F) || 0x8A ≤ n

/-- Well-formedness. UNSUPPORTED carries a byte that no other row takes (R131, R94); RENDERFRAME reads inside its buffer
(R51); LOOKUP's index is in 0..46 (R110). Every other operand is legal. A Render with len > |buf| is well-formed: it is a
transaction that the block refuses (R263). -/
def Instr.wf : Instr → Bool
  | .dotPeriod | .dotColon | .digit0 | .digit1 | .digit2 | .digit3 | .digit4 | .digit5 | .digit6 | .digit7
  | .digit8 | .digit9 | .lowerA | .lowerB | .lowerC | .lowerD | .lowerE | .lowerF | .lowerG | .lowerH
  | .lowerI | .lowerJ | .lowerK | .lowerL | .lowerM | .lowerN | .lowerO | .lowerP | .lowerQ | .lowerR
  | .lowerS | .lowerT | .lowerU | .lowerV | .lowerW | .lowerX | .lowerY | .lowerZ | .upperA | .upperB
  | .upperC | .upperD | .upperE | .upperF | .upperG | .upperH | .upperI | .upperJ | .upperK | .upperL
  | .upperM | .upperN | .upperO | .upperP | .upperQ | .upperR | .upperS | .upperT | .upperU | .upperV
  | .upperW | .upperX | .upperY | .upperZ | .wsHt | .wsLf | .wsVt | .wsFf | .wsCr | .wsSp | .glyphPlay
  | .glyphPause | .glyphStop | .segCenter | .segTop | .segTopRight | .segBottomRight | .segBottom
  | .segBottomLeft | .segTopLeft => true
  | .unsupported c => isUnsupportedByte c
  | .setup => true
  | .render _ _ => true
  | .hostwrite _ => true
  | .renderframe buf len => decide (len ≤ buf.length)
  | .lookup k => decide (k ≤ 46)
  | .classify _ => true
  | .sendbit _ => true
  | .sendbyte _ => true
  | .commit => true
  | .transmitframe _ => true
  | .setline _ _ => true

end Sys2Proof
end

