-- ==== Sys2Proof/Decode.lean ====
section
/-! DEFINITION. The decoder of the input byte code space (R81 to R94), the encoder, and the notation of the host
transactions (R93). The table follows spec/opcode_table.json: each supported row matches one byte with mask 0xFF, and the
UNSUPPORTED row takes what no other row takes. -/

namespace Sys2Proof

/-- The DOT rows (R115, R116). -/
def dotRows : List (Byte × Instr) :=
  [(0x2E#8, .dotPeriod), (0x3A#8, .dotColon)]

/-- The DIGIT rows (R117). -/
def digitRows : List (Byte × Instr) :=
  [(0x30#8, .digit0), (0x31#8, .digit1), (0x32#8, .digit2), (0x33#8, .digit3), (0x34#8, .digit4),
   (0x35#8, .digit5), (0x36#8, .digit6), (0x37#8, .digit7), (0x38#8, .digit8), (0x39#8, .digit9)]

/-- The LOWER rows (R118). -/
def lowerRows : List (Byte × Instr) :=
  [(0x61#8, .lowerA), (0x62#8, .lowerB), (0x63#8, .lowerC), (0x64#8, .lowerD), (0x65#8, .lowerE),
   (0x66#8, .lowerF), (0x67#8, .lowerG), (0x68#8, .lowerH), (0x69#8, .lowerI), (0x6A#8, .lowerJ),
   (0x6B#8, .lowerK), (0x6C#8, .lowerL), (0x6D#8, .lowerM), (0x6E#8, .lowerN), (0x6F#8, .lowerO),
   (0x70#8, .lowerP), (0x71#8, .lowerQ), (0x72#8, .lowerR), (0x73#8, .lowerS), (0x74#8, .lowerT),
   (0x75#8, .lowerU), (0x76#8, .lowerV), (0x77#8, .lowerW), (0x78#8, .lowerX), (0x79#8, .lowerY),
   (0x7A#8, .lowerZ)]

/-- The UPPER rows (R119). -/
def upperRows : List (Byte × Instr) :=
  [(0x41#8, .upperA), (0x42#8, .upperB), (0x43#8, .upperC), (0x44#8, .upperD), (0x45#8, .upperE),
   (0x46#8, .upperF), (0x47#8, .upperG), (0x48#8, .upperH), (0x49#8, .upperI), (0x4A#8, .upperJ),
   (0x4B#8, .upperK), (0x4C#8, .upperL), (0x4D#8, .upperM), (0x4E#8, .upperN), (0x4F#8, .upperO),
   (0x50#8, .upperP), (0x51#8, .upperQ), (0x52#8, .upperR), (0x53#8, .upperS), (0x54#8, .upperT),
   (0x55#8, .upperU), (0x56#8, .upperV), (0x57#8, .upperW), (0x58#8, .upperX), (0x59#8, .upperY),
   (0x5A#8, .upperZ)]

/-- The WHITESPACE rows: the default set (R120, R94). -/
def whitespaceRows : List (Byte × Instr) :=
  [(0x09#8, .wsHt), (0x0A#8, .wsLf), (0x0B#8, .wsVt), (0x0C#8, .wsFf), (0x0D#8, .wsCr), (0x20#8, .wsSp)]

/-- The GLYPH rows (R121 to R130). -/
def glyphRows : List (Byte × Instr) :=
  [(0x80#8, .glyphPlay), (0x81#8, .glyphPause), (0x82#8, .glyphStop), (0x83#8, .segCenter), (0x84#8, .segTop),
   (0x85#8, .segTopRight), (0x86#8, .segBottomRight), (0x87#8, .segBottom), (0x88#8, .segBottomLeft),
   (0x89#8, .segTopLeft)]

/-- The 80 byte rows of the opcode table, by the precedence of R82. No two rows match one byte. -/
def byteTable : List (Byte × Instr) :=
  dotRows ++ digitRows ++ lowerRows ++ upperRows ++ whitespaceRows ++ glyphRows

/-- The instruction of the first row that matches `c`. -/
def rowOf : List (Byte × Instr) → Byte → Option Instr
  | [], _ => none
  | (b, i) :: rows, c => if b = c then some i else rowOf rows c

/-- One byte, decoded alone (R92). Every byte decodes: none is illegal (R90). -/
def decodeByte (c : Byte) : Instr := (rowOf byteTable c).getD (.unsupported c)

/-- Why a decoder input is rejected. -/
inductive DecodeError where
  /-- There is no byte to decode. -/
  | noByte
  deriving DecidableEq, Repr

/-- Decodes one instruction from a list of bytes and returns it with the bytes after it. There are no multi-byte forms
(R92). -/
def decode : List Byte → Except DecodeError (Instr × List Byte)
  | [] => .error .noByte
  | c :: rest => .ok (decodeByte c, rest)

/-- The byte code of an instruction; none for a host transaction or an internal operation, which have no bit encoding
in any source (R94). -/
def encodeByte : Instr → Option Byte
  | .dotPeriod => some 0x2E#8
  | .dotColon => some 0x3A#8
  | .digit0 => some 0x30#8
  | .digit1 => some 0x31#8
  | .digit2 => some 0x32#8
  | .digit3 => some 0x33#8
  | .digit4 => some 0x34#8
  | .digit5 => some 0x35#8
  | .digit6 => some 0x36#8
  | .digit7 => some 0x37#8
  | .digit8 => some 0x38#8
  | .digit9 => some 0x39#8
  | .lowerA => some 0x61#8
  | .lowerB => some 0x62#8
  | .lowerC => some 0x63#8
  | .lowerD => some 0x64#8
  | .lowerE => some 0x65#8
  | .lowerF => some 0x66#8
  | .lowerG => some 0x67#8
  | .lowerH => some 0x68#8
  | .lowerI => some 0x69#8
  | .lowerJ => some 0x6A#8
  | .lowerK => some 0x6B#8
  | .lowerL => some 0x6C#8
  | .lowerM => some 0x6D#8
  | .lowerN => some 0x6E#8
  | .lowerO => some 0x6F#8
  | .lowerP => some 0x70#8
  | .lowerQ => some 0x71#8
  | .lowerR => some 0x72#8
  | .lowerS => some 0x73#8
  | .lowerT => some 0x74#8
  | .lowerU => some 0x75#8
  | .lowerV => some 0x76#8
  | .lowerW => some 0x77#8
  | .lowerX => some 0x78#8
  | .lowerY => some 0x79#8
  | .lowerZ => some 0x7A#8
  | .upperA => some 0x41#8
  | .upperB => some 0x42#8
  | .upperC => some 0x43#8
  | .upperD => some 0x44#8
  | .upperE => some 0x45#8
  | .upperF => some 0x46#8
  | .upperG => some 0x47#8
  | .upperH => some 0x48#8
  | .upperI => some 0x49#8
  | .upperJ => some 0x4A#8
  | .upperK => some 0x4B#8
  | .upperL => some 0x4C#8
  | .upperM => some 0x4D#8
  | .upperN => some 0x4E#8
  | .upperO => some 0x4F#8
  | .upperP => some 0x50#8
  | .upperQ => some 0x51#8
  | .upperR => some 0x52#8
  | .upperS => some 0x53#8
  | .upperT => some 0x54#8
  | .upperU => some 0x55#8
  | .upperV => some 0x56#8
  | .upperW => some 0x57#8
  | .upperX => some 0x58#8
  | .upperY => some 0x59#8
  | .upperZ => some 0x5A#8
  | .wsHt => some 0x09#8
  | .wsLf => some 0x0A#8
  | .wsVt => some 0x0B#8
  | .wsFf => some 0x0C#8
  | .wsCr => some 0x0D#8
  | .wsSp => some 0x20#8
  | .glyphPlay => some 0x80#8
  | .glyphPause => some 0x81#8
  | .glyphStop => some 0x82#8
  | .segCenter => some 0x83#8
  | .segTop => some 0x84#8
  | .segTopRight => some 0x85#8
  | .segBottomRight => some 0x86#8
  | .segBottom => some 0x87#8
  | .segBottomLeft => some 0x88#8
  | .segTopLeft => some 0x89#8
  | .unsupported c => some c
  | .setup => none
  | .render _ _ => none
  | .hostwrite _ => none
  | .renderframe _ _ => none
  | .lookup _ => none
  | .classify _ => none
  | .sendbit _ => none
  | .sendbyte _ => none
  | .commit => none
  | .transmitframe _ => none
  | .setline _ _ => none

/-- The words of an instruction: one byte, where the instruction has a bit encoding. -/
def encode (i : Instr) : Option (List Byte) := (encodeByte i).map fun b => [b]

/-- The `n` bytes of a number, least-significant byte first. -/
def bytesOfNat : Nat → Nat → List Byte
  | 0, _ => []
  | n + 1, w => BitVec.ofNat 8 w :: bytesOfNat n (w / 256)

/-- The bytes of an opcode-table word of `nbits` bits. An instruction of this block is one byte long, so at least one byte
is laid out; the bits above `nbits` are 0. -/
def tableBytes (nbits w : Nat) : List Byte := bytesOfNat (max 1 ((nbits + 7) / 8)) (w % 2 ^ nbits)

/-- The instruction the decoder reads from a word of the opcode table. -/
def decodeTableWord (nbits w : Nat) : Option Instr :=
  match decode (tableBytes nbits w) with
  | .ok (i, _) => some i
  | .error _ => none

/-- The row of the opcode table that a host transaction is (R94). -/
def Txn.instr : Txn → Instr
  | .setup => .setup
  | .render buf len => .render buf len
  | .hostwrite buf => .hostwrite buf

/-- The encoding of a host transaction: its byte payload (R93). Setup has none. -/
def Txn.payload : Txn → List Byte
  | .setup => []
  | .render buf _ => buf
  | .hostwrite buf => buf

/-- One hexadecimal digit, upper case (R93). -/
def hexDigit (n : Nat) : Char := if n < 10 then Char.ofNat (48 + n) else Char.ofNat (55 + n)

/-- A byte as two hexadecimal digits (R93). -/
def hexByte (b : Byte) : List Char := [hexDigit (b.toNat / 16), hexDigit (b.toNat % 16)]

/-- The payload listed in hexadecimal (R93). -/
def Txn.hexPayload (t : Txn) : List (List Char) := t.payload.map hexByte

/-- A byte inside the quotes of the transaction notation (R93). A quote and a backslash are written as `\xHH` so that the
text reads back (DESIGN CHOICE, log 23). -/
def quotedByte (b : Byte) : List Char :=
  if b = 0x0A#8 then ['\\', 'n']
  else if b = 0x0D#8 then ['\\', 'r']
  else if b = 0x09#8 then ['\\', 't']
  else if 0x20#8 ≤ b ∧ b ≤ 0x7E#8 ∧ b ≠ 0x22#8 ∧ b ≠ 0x5C#8 then [Char.ofNat b.toNat]
  else '\\' :: 'x' :: hexByte b

/-- The text of a byte buffer between quotes (R93). -/
def quoted (buf : List Byte) : List Char := '"' :: buf.flatMap quotedByte ++ ['"']

/-- A decimal numeral. -/
def decimal (n : Nat) : List Char := Nat.toDigits 10 n

/-- The text of a host transaction: `setup`, `render "…", <len>` and `write "…"` (R93). -/
def Txn.text : Txn → List Char
  | .setup => "setup".toList
  | .render buf len => "render ".toList ++ quoted buf ++ ", ".toList ++ decimal len
  | .hostwrite buf => "write ".toList ++ quoted buf

end Sys2Proof
end

