-- ==== Sys2Proof/Config.lean ====
section
/-! DEFINITION. What an implementation fixes (R8): the spec's default values, and the values it leaves OPEN as free
values, constants with no body. -/

namespace Sys2Proof.Config

/-- The seven segments of one digit, by the names of R86 and R124 to R130. -/
inductive Segment where
  | top | topRight | bottomRight | bottom | bottomLeft | topLeft | center
  deriving DecidableEq, Repr, Inhabited

/-- SEG_WIRING: the segments that pattern bits 1..7 drive, in that order. Each of the seven segments is driven by exactly one
of the seven bits (R86, D3). -/
structure SegWiring where
  order : List Segment
  seven : order.length = 7
  distinct : order.Nodup
  deriving DecidableEq, Repr

/-- The segments by number, in the order of D3. -/
def segmentAt (k : Fin 7) : Segment :=
  [Segment.top, .topRight, .bottomRight, .bottom, .bottomLeft, .topLeft, .center][k]

theorem segmentAt_injective : Function.Injective segmentAt := by decide

/-- The wiring in which bit k + 1 drives the segment of number `e k`. -/
def SegWiring.ofPerm (e : Equiv.Perm (Fin 7)) : SegWiring where
  order := (List.finRange 7).map fun k => segmentAt (e k)
  seven := by simp
  distinct := (List.nodup_finRange 7).map (segmentAt_injective.comp e.injective)

/-- Free value (log 5): the contents of PATTERN_TABLE. Entry 36 is not read from it (R111). -/
opaque patternEntry : Nat → Pattern

/-- Free value (log 6): the level Setup drives on OE, OPEN (R8, R291). -/
opaque oeSetupLevel : Bool

/-- Free value (log 6): the OE level at which the chain's outputs show the latch, OPEN (R8, R243). -/
opaque oeActiveLevel : Bool

/-- Free value (log 7): SEG_WIRING as a permutation of the seven segment numbers, OPEN but for being a bijection (R8, R86,
D3). -/
opaque segmentPerm : Equiv.Perm (Fin 7)

/-- Free value (log 7): the digit map, the physical digit that a latch position drives, OPEN (R247, D3). -/
opaque digitOf : Nat → Nat

/-- The default digit count N (R8). -/
def digitCount : Nat := 5

/-- The default line identifiers of DATA, CLOCK, STROBE and OE (R8). -/
def pinData : Nat := 9
/-- The default identifier of the CLOCK line (R8). -/
def pinClock : Nat := 8
/-- The default identifier of the STROBE line (R8). -/
def pinStrobe : Nat := 6
/-- The default identifier of the OE line (R8). -/
def pinOe : Nat := 4

/-- The default WHITESPACE_SET (R8, D4). -/
def whitespaceSet : List Byte := [0x09#8, 0x0A#8, 0x0B#8, 0x0C#8, 0x0D#8, 0x20#8]

/-- The default of TRUNCATE (R8, D8). -/
def truncate : Bool := true

/-- The default of STRIP_CRLF (R8, D9). -/
def stripCrlf : Bool := true

/-- The default of STROBE_INIT (R8, D15). -/
def strobeInit : Bool := false

end Sys2Proof.Config
end

