-- ==== Sys2Proof/Machine/Cfg.lean ====
section
/-! DEFINITION. CFG, the DisplayConfig, and which configurations are legal (10_state.md, section 2). -/

namespace Sys2Proof.Machine

/-- CFG, the DisplayConfig: the digit count and the four line identifiers (R22). -/
structure Cfg where
  n : Nat
  pinData : Nat
  pinClock : Nat
  pinStrobe : Nat
  pinOe : Nat
  deriving DecidableEq, Repr

/-- A legal configuration: N ≥ 1 and four different line identifiers (R22, R23). -/
def Cfg.valid (c : Cfg) : Bool :=
  decide (1 ≤ c.n ∧ [c.pinData, c.pinClock, c.pinStrobe, c.pinOe].Nodup)

end Sys2Proof.Machine
end

