-- ==== Sys2Proof/Machine/State.lean ====
section
/-! DEFINITION. The state of the block, of its ports and of the downstream chain, as plain data (10_state.md), with the
state after reset (R38, R290). -/

namespace Sys2Proof.Machine

/-- The result of classifying one byte (R114). -/
inductive ByteClass where
  /-- A decimal-point marker. -/
  | dot
  /-- The character class with PatternTable index `k`, 0 ≤ k ≤ 46 (R84). -/
  | idx (k : Nat)
  /-- A byte of no class, dropped by the renderer. -/
  | unsupported
  deriving DecidableEq, Repr

/-- The other parameters of R8, fixed from startup. No step writes one. -/
structure Params where
  /-- WHITESPACE_SET -/
  whitespace : List Byte
  /-- TRUNCATE -/
  truncate : Bool
  /-- STRIP_CRLF -/
  stripCrlf : Bool
  /-- STROBE_INIT -/
  strobeInit : Bool
  /-- OE_SETUP_LEVEL -/
  oeSetupLevel : Bool
  /-- OE_ACTIVE_LEVEL -/
  oeActiveLevel : Bool
  /-- CHAIN_BITS -/
  chainBits : Nat
  /-- SEG_WIRING: the segments that bits 1..7 drive, a bijection (R86, D3). -/
  segWiring : Config.SegWiring
  /-- The digit map: the physical digit that each latch position drives (R247, D3). -/
  digitMap : List Nat
  deriving DecidableEq, Repr

/-- The phase of one bit cell (R26). -/
inductive Phase where
  | clkLow | dataSet | clkHigh
  deriving DecidableEq, Repr

/-- SEQ, the sequencer state (R26); j and k have no other storage (R32). -/
inductive Seq where
  | unconfigured
  | idle
  | compute
  | shift (j : Nat) (k : Fin 8) (ph : Phase)
  | strobeHigh
  | strobeLow
  deriving DecidableEq, Repr

/-- The input buffer `In` (R50, R51): the addresses 0..size-1, and the bytes that are not 0 in rising address order. -/
structure Memory where
  size : Nat
  cells : List Host.Cell
  deriving DecidableEq, Repr

/-- The renderer's working registers (R28 to R31). -/
structure Scan where
  /-- `i`, the input bytes not yet scanned (R28). -/
  i : Nat
  /-- `dot`, the pending-dot flag (R29). -/
  dot : Bool
  /-- `count`, the patterns emitted so far (R30). -/
  count : Nat
  /-- `F`, the frame buffer (R31). -/
  frame : List Pattern
  deriving DecidableEq, Repr

/-- LV, the levels of the four output lines (R33). -/
structure Lines where
  data : Bool
  clock : Bool
  strobe : Bool
  oe : Bool
  deriving DecidableEq, Repr

/-- One line event (R34). -/
abbrev Event := Line × Bool

/-- The line side: the levels, the trace and the downstream chain (R33 to R36). -/
structure Bank where
  lv : Lines
  /-- TRACE (R34), oldest event first. -/
  trace : List Event
  /-- `S`, the shift stage; its first bit is nearest the DATA input (R35). -/
  shift : List Bool
  /-- `L`, the latch stage (R36). -/
  latch : List Bool
  deriving DecidableEq, Repr

/-- Why a transaction is refused (R260). -/
inductive Reason where
  | badConfig | notSetUp | notReady | busy | lengthExceedsBuffer | alreadySetUp
  deriving DecidableEq, Repr

/-- The model's own (log 12): the block's answer to the transaction presented last, and before the first one to the startup
configuration. -/
inductive Verdict where
  | none
  | accepted
  /-- Refused; `rs` holds every name that the rules give for it, in the order of R271 (more than one only for a Setup in an
  illegal configuration, log 15). -/
  | refused (rs : List Reason)
  deriving DecidableEq, Repr

/-- The model's own (log 13): the value that LOOKUP or CLASSIFY returned last. -/
inductive Ret where
  | none
  | pattern (p : Pattern)
  | cls (c : ByteClass)
  deriving DecidableEq, Repr

/-- The model's own (log 10): what the host side does at one step. -/
inductive HostInput where
  /-- The host does nothing. -/
  | wait
  /-- The host presents a transaction (R230). -/
  | present (t : Txn)
  /-- The DigitalOutputBank drives READY (R25). -/
  | ready (v : Bool)
  /-- The host stores a byte into its input buffer (R67). -/
  | store (a : Nat) (b : Byte)
  deriving DecidableEq, Repr

/-- The whole machine. -/
structure State where
  /-- CFG (R22). -/
  cfg : Cfg
  /-- The parameters of R8 that are not in CFG. -/
  par : Params
  /-- The PatternTable, 47 entries, read only (R52). -/
  table : List Pattern
  /-- Whether the configuration was refused at startup (R23, R264). Only startup writes it. -/
  configRefused : Bool
  /-- READY (R25). -/
  ready : Bool
  /-- SEQ (R26). -/
  seq : Seq
  /-- `In`, the buffer of the request in flight (R50). -/
  input : Memory
  /-- The length of the request in flight (R150). -/
  len : Nat
  /-- `i`, `dot`, `count` and `F` (R28 to R31). -/
  scan : Scan
  /-- The lines, the trace and the chain (R33 to R36). -/
  bank : Bank
  /-- The model's own: the host's inputs still to come (log 10). -/
  host : List HostInput
  /-- The model's own: COMPUTE runs one byte a step (log 11). -/
  byteGrain : Bool
  /-- The model's own: the block's last answer (log 12). -/
  verdict : Verdict
  /-- The model's own: the value returned last (log 13). -/
  ret : Ret
  deriving DecidableEq, Repr

/-- Why the machine stops. Both are raised by the sequencer, in states no run reaches, and are safe (log 20). -/
inductive Fault where
  /-- The sequencer is at SHIFT(j, k, ph) and the frame buffer has no slot j. Safe. -/
  | noFrameSlot
  /-- COMPUTE is to read an input byte at or beyond the buffer's size (R51). Safe. -/
  | noInputByte
  deriving DecidableEq, Repr

/-- Why an instruction has no meaning on its operands (log 19). -/
inductive Refusal where
  /-- Raised by an arm of `exec` whose instruction is not modelled yet. Safe. -/
  | notModelled (mnemonic : String)
  /-- Raised by LOOKUP with an index outside 0..46, a call that R110 says a model refuses. Safe. -/
  | lookupIndex
  /-- Raised by RENDERFRAME with a length beyond its buffer, a read that R51 rules out. Safe. -/
  | lengthBeyondBuffer
  /-- Raised by TRANSMITFRAME with an operand that is not a frame of N patterns (R9). Safe. -/
  | notAFrame
  deriving DecidableEq, Repr

/-- The machine after reset, loaded with a startup configuration (R290, R38). A configuration that is not legal is refused
as BadConfig, and the block stays UNCONFIGURED (R23, R264). The working registers, DATA, CLOCK, OE, S
and L have no value in the spec: the zeros are DESIGN CHOICES (log 1, 2, 3), as are READY (log 4) and the request (log 8). -/
def State.startup (cfg : Cfg) (par : Params) (table : List Pattern) : State where
  cfg := cfg
  par := par
  table := table
  configRefused := !cfg.valid
  ready := false
  seq := .unconfigured
  input := { size := 0, cells := [] }
  len := 0
  scan := { i := 0, dot := false, count := 0, frame := List.replicate cfg.n 0x00#8 }
  bank :=
    { lv := { data := false, clock := false, strobe := par.strobeInit, oe := false }
      trace := []
      shift := List.replicate par.chainBits false
      latch := List.replicate par.chainBits false }
  host := []
  byteGrain := false
  verdict := if cfg.valid then .none else .refused [.badConfig]
  ret := .none

/-- The default startup configuration (R22). -/
def Cfg.default : Cfg where
  n := Config.digitCount
  pinData := Config.pinData
  pinClock := Config.pinClock
  pinStrobe := Config.pinStrobe
  pinOe := Config.pinOe

/-- The parameters of an N-digit block at their defaults; the OPEN ones are the free values of Config (R8). -/
def Params.default (n : Nat) : Params where
  whitespace := Config.whitespaceSet
  truncate := Config.truncate
  stripCrlf := Config.stripCrlf
  strobeInit := Config.strobeInit
  oeSetupLevel := Config.oeSetupLevel
  oeActiveLevel := Config.oeActiveLevel
  chainBits := 8 * n
  segWiring := Config.SegWiring.ofPerm Config.segmentPerm
  digitMap := (List.range (8 * n)).map Config.digitOf

/-- The PatternTable: entry 36 is 0x00, every other entry is a free value (R111). -/
def defaultTable : List Pattern :=
  (List.range 47).map fun k => if k = 36 then 0x00#8 else Config.patternEntry k

/-- The machine right after reset, with the default configuration (R290). -/
def State.reset : State := State.startup Cfg.default (Params.default Cfg.default.n) defaultTable

end Sys2Proof.Machine
end

