-- ==== Sys2Proof/Machine/Encoder.lean ====
section
/-! DEFINITION. The PatternTable and the PatternEncoder (41_encoder.md). -/

namespace Sys2Proof.Machine

/-- `lookup(k)`: entry k of the PatternTable. Entry 36 is the blank pattern whatever the table holds (R110, R111). -/
def lookup (table : List Pattern) (k : Nat) : Pattern := if k = 36 then 0x00#8 else table.getD k 0x00#8

/-- The class of a byte that is WHITESPACE when WHITESPACE_SET holds it, and of class `other` when not (R114, step 5 and
the steps after it). -/
def whitespaceOr (ws : List Byte) (c : Byte) (other : ByteClass) : ByteClass := if c ∈ ws then .idx 36 else other

/-- `classify(c)`, in the precedence of R82 (R114). -/
def classify (ws : List Byte) (c : Byte) : ByteClass :=
  if c = 0x2E#8 ∨ c = 0x3A#8 then .dot
  else if 0x30#8 ≤ c ∧ c ≤ 0x39#8 then .idx (c.toNat - 0x30)
  else if 0x61#8 ≤ c ∧ c ≤ 0x7A#8 then .idx (c.toNat - 0x61 + 10)
  else if 0x41#8 ≤ c ∧ c ≤ 0x5A#8 then .idx (c.toNat - 0x41 + 10)
  else whitespaceOr ws c (if 0x80#8 ≤ c ∧ c ≤ 0x89#8 then .idx (37 + (c.toNat - 0x80)) else .unsupported)

end Sys2Proof.Machine
end

