-- ==== Sys2Proof/Machine/Flags.lean ====
section
/-! DEFINITION. The block's one flag, the pending dot (R29, R87): its value at the start of a scan, after a byte of each
class, and what it adds to an emitted pattern. -/

namespace Sys2Proof.Machine

/-- The flag at the start of every scan (R152). -/
def dotAtStart : Bool := false

/-- The flag after a byte of class `c`: set by DOT (R153), kept by UNSUPPORTED (R154), cleared by an emitted pattern
(R155). -/
def dotAfter (c : ByteClass) (dot : Bool) : Bool :=
  match c with
  | .dot => true
  | .unsupported => dot
  | .idx _ => false

/-- The mask ORed into an emitted pattern: the dot mask is 0x01 (R87, R155). -/
def dotMask (dot : Bool) : Pattern := if dot then 0x01#8 else 0x00#8

end Sys2Proof.Machine
end

