-- ==== Sys2Proof/Machine/Ops.lean ====
section
/-! DEFINITION. The named operations over the state: the updates, the input buffer, the four lines with the chain behind
them, and the refusal of a transaction. The block takes no exception and returns from none (R260, R272): refusing is the
one thing that stands in that place. -/

namespace Sys2Proof.Machine

def State.withSeq (s : State) (x : Seq) : State := { s with seq := x }
def State.withScan (s : State) (x : Scan) : State := { s with scan := x }
def State.withBank (s : State) (x : Bank) : State := { s with bank := x }
def State.withReady (s : State) (x : Bool) : State := { s with ready := x }
def State.withInput (s : State) (x : Memory) : State := { s with input := x }
def State.withRequest (s : State) (x : Memory) (len : Nat) : State := { s with input := x, len := len }
def State.withHost (s : State) (x : List HostInput) : State := { s with host := x }
def State.withVerdict (s : State) (x : Verdict) : State := { s with verdict := x }
def State.withRet (s : State) (x : Ret) : State := { s with ret := x }

/-- The line identifier of a role (R24). -/
def Cfg.pin (c : Cfg) : Line → Nat
  | .data => c.pinData
  | .clock => c.pinClock
  | .strobe => c.pinStrobe
  | .oe => c.pinOe

/-- BUSY: a transaction is in flight (R27). -/
def State.busy (s : State) : Bool :=
  match s.seq with
  | .unconfigured => false
  | .idle => false
  | .compute => true
  | .shift _ _ _ => true
  | .strobeHigh => true
  | .strobeLow => true

/-- What an address below the size reads as where nothing is listed (DESIGN CHOICE, log 9). -/
def unlistedByte : Byte := 0x00#8

/-- The byte listed at an address, if one is. -/
def cellAt : List Host.Cell → Nat → Byte
  | [], _ => unlistedByte
  | (a, b) :: cells, x => if a = x then b else cellAt cells x

/-- `In[a]`; none where the buffer has no such byte (R51). -/
def Memory.read (m : Memory) (a : Nat) : Option Byte := if a < m.size then some (cellAt m.cells a) else none

/-- Lists byte `b` at address `x`, in rising address order; a byte that reads the same unlisted is not listed. -/
def putCell (x : Nat) (b : Byte) : List Host.Cell → List Host.Cell
  | [] => if b = unlistedByte then [] else [(x, b)]
  | (a, c) :: cells =>
    if x < a then (if b = unlistedByte then (a, c) :: cells else (x, b) :: (a, c) :: cells)
    else if x = a then (if b = unlistedByte then cells else (x, b) :: cells)
    else (a, c) :: putCell x b cells

/-- A store of the host into its buffer. Outside the buffer there is no byte, and nothing changes (log 10). -/
def Memory.write (m : Memory) (a : Nat) (b : Byte) : Memory :=
  if a < m.size then { m with cells := putCell a b m.cells } else m

/-- The cells of a list of bytes that starts at address `a`. -/
def cellsFrom : Nat → List Byte → List Host.Cell
  | _, [] => []
  | a, b :: bs => if b = unlistedByte then cellsFrom (a + 1) bs else (a, b) :: cellsFrom (a + 1) bs

/-- The buffer that holds exactly the bytes the host hands over. -/
def Memory.load (bytes : List Byte) : Memory where
  size := bytes.length
  cells := cellsFrom 0 bytes

/-- The bytes of the buffer, in address order. -/
def Memory.bytes (m : Memory) : List Byte := (List.range m.size).map (cellAt m.cells)

/-- The cells are in rising address order from `lo` on, below `hi`, and none is listed that reads the same unlisted. -/
def cellsOk (lo hi : Nat) : List Host.Cell → Bool
  | [] => true
  | (a, b) :: cells => decide (lo ≤ a) && decide (a < hi) && decide (b ≠ unlistedByte) && cellsOk (a + 1) hi cells

/-- The canonical form of the input buffer. -/
def Memory.wf (m : Memory) : Bool := cellsOk 0 m.size m.cells

/-- The level of a line (R33). -/
def Lines.get (lv : Lines) : Line → Bool
  | .data => lv.data
  | .clock => lv.clock
  | .strobe => lv.strobe
  | .oe => lv.oe

/-- The levels with one line changed. -/
def Lines.set (lv : Lines) (l : Line) (v : Bool) : Lines :=
  match l with
  | .data => { lv with data := v }
  | .clock => { lv with clock := v }
  | .strobe => { lv with strobe := v }
  | .oe => { lv with oe := v }

/-- A rising edge: the line is driven to 1 while it holds 0 (R60). -/
def Lines.rises (lv : Lines) (l : Line) (v : Bool) : Bool := v && !lv.get l

/-- `SetLine(line, v)` and what the chain does with the event: a rising CLOCK shifts DATA in, a rising STROBE latches, and
nothing else moves S or L (R231, R240 to R242). -/
def Bank.setLine (chainBits : Nat) (l : Line) (v : Bool) (b : Bank) : Bank where
  lv := b.lv.set l v
  trace := b.trace ++ [(l, v)]
  shift := if l = .clock ∧ b.lv.rises l v then (b.lv.data :: b.shift).take chainBits else b.shift
  latch := if l = .strobe ∧ b.lv.rises l v then b.shift else b.latch

/-- A list of line events, made in order. -/
def Bank.replay (chainBits : Nat) : List Event → Bank → Bank
  | [], b => b
  | (l, v) :: es, b => Bank.replay chainBits es (b.setLine chainBits l v)

/-- `refuse(reason)`, with every name the rules give for the reason: no line event, no state change; only the port's answer is kept (R260, R272, log 12). -/
def State.refuse (s : State) (rs : List Reason) : State := s.withVerdict (.refused rs)

end Sys2Proof.Machine
end

