-- ==== Sys2Proof/Machine/Renderer.lean ====
section
/-! DEFINITION. The TextRenderer: the steps of the scan and the whole of renderFrame (42_renderer.md). -/

namespace Sys2Proof.Machine

/-- Scan start: `i <- len; dot <- 0; count <- 0` (R152). -/
def Scan.start (len : Nat) (r : Scan) : Scan := { r with i := len, dot := dotAtStart, count := 0 }

/-- One step of the scan over a byte of class `c`: DOT (R153), UNSUPPORTED (R154) or EMIT (R155). -/
def Scan.step (table : List Pattern) (c : ByteClass) (r : Scan) : Scan :=
  match c with
  | .dot => { r with i := r.i - 1, dot := dotAfter .dot r.dot }
  | .unsupported => { r with i := r.i - 1, dot := dotAfter .unsupported r.dot }
  | .idx k =>
    { i := r.i - 1
      dot := dotAfter (.idx k) r.dot
      count := r.count + 1
      frame := r.frame.set r.count (lookup table k ||| dotMask r.dot) }

/-- The scan goes on while `count < N` and `i > 0` (R156). -/
def Scan.goesOn (n : Nat) (r : Scan) : Bool := decide (r.count < n) && decide (0 < r.i)

/-- The scan from `In[i − 1]` down to `In[0]`, with the test before each read (R151, R156). -/
def scanLoop (n : Nat) (table : List Pattern) (ws : List Byte) (buf : List Byte) : Nat → Scan → Scan
  | 0, r => r
  | i + 1, r =>
    if r.count < n then scanLoop n table ws buf i (r.step table (classify ws (buf.getD i 0x00#8))) else r

/-- Padding: `F[count..N−1] <- 0x00`, with no dot (R157). -/
def Scan.pad (n : Nat) (r : Scan) : Scan :=
  { r with frame := r.frame.take r.count ++ List.replicate (n - r.count) 0x00#8 }

/-- `renderFrame(In, len)` on the working registers (R151). -/
def renderScan (n : Nat) (table : List Pattern) (ws : List Byte) (buf : List Byte) (len : Nat) (r : Scan) : Scan :=
  (scanLoop n table ws buf len (r.start len)).pad n

/-- `renderFrame(In, len)` on the machine; the frame it returns is F (R151, R158). -/
def State.renderFrame (buf : List Byte) (len : Nat) (s : State) : State :=
  s.withScan (renderScan s.cfg.n s.table s.par.whitespace buf len s.scan)

/-- The meaning of one input byte of class `c`: a step of the scan, if the scan goes on. Once N patterns are emitted or the
buffer's start is reached no byte is read, and a byte has no effect (R156, log 16). -/
def State.scanStep (c : ByteClass) (s : State) : State :=
  if s.scan.goesOn s.cfg.n then s.withScan (s.scan.step s.table c) else s

end Sys2Proof.Machine
end

