-- ==== Sys2Proof/Machine/Bytes.lean ====
section
/-! DEFINITION. The meanings of the byte codes: each is one step of the scan over a byte of its class (R115 to R131). A byte
that WHITESPACE_SET may hold is WHITESPACE when the set holds it (R83, R114 step 5, log 17). -/

namespace Sys2Proof.Machine

/-- DOT_PERIOD (R115). -/
def execDotPeriod (s : State) : Host.Outcome State Fault Refusal := .next (s.scanStep .dot)

/-- DOT_COLON (R116). -/
def execDotColon (s : State) : Host.Outcome State Fault Refusal := .next (s.scanStep .dot)

/-- DIGIT_0 (R117). -/
def execDigit0 (s : State) : Host.Outcome State Fault Refusal := .next (s.scanStep (.idx 0))

/-- DIGIT_1 (R117). -/
def execDigit1 (s : State) : Host.Outcome State Fault Refusal := .next (s.scanStep (.idx 1))

/-- DIGIT_2 (R117). -/
def execDigit2 (s : State) : Host.Outcome State Fault Refusal := .next (s.scanStep (.idx 2))

/-- DIGIT_3 (R117). -/
def execDigit3 (s : State) : Host.Outcome State Fault Refusal := .next (s.scanStep (.idx 3))

/-- DIGIT_4 (R117). -/
def execDigit4 (s : State) : Host.Outcome State Fault Refusal := .next (s.scanStep (.idx 4))

/-- DIGIT_5 (R117). -/
def execDigit5 (s : State) : Host.Outcome State Fault Refusal := .next (s.scanStep (.idx 5))

/-- DIGIT_6 (R117). -/
def execDigit6 (s : State) : Host.Outcome State Fault Refusal := .next (s.scanStep (.idx 6))

/-- DIGIT_7 (R117). -/
def execDigit7 (s : State) : Host.Outcome State Fault Refusal := .next (s.scanStep (.idx 7))

/-- DIGIT_8 (R117). -/
def execDigit8 (s : State) : Host.Outcome State Fault Refusal := .next (s.scanStep (.idx 8))

/-- DIGIT_9 (R117). -/
def execDigit9 (s : State) : Host.Outcome State Fault Refusal := .next (s.scanStep (.idx 9))

/-- LOWER_a (R118). -/
def execLowerA (s : State) : Host.Outcome State Fault Refusal := .next (s.scanStep (.idx 10))

/-- LOWER_b (R118). -/
def execLowerB (s : State) : Host.Outcome State Fault Refusal := .next (s.scanStep (.idx 11))

/-- LOWER_c (R118). -/
def execLowerC (s : State) : Host.Outcome State Fault Refusal := .next (s.scanStep (.idx 12))

/-- LOWER_d (R118). -/
def execLowerD (s : State) : Host.Outcome State Fault Refusal := .next (s.scanStep (.idx 13))

/-- LOWER_e (R118). -/
def execLowerE (s : State) : Host.Outcome State Fault Refusal := .next (s.scanStep (.idx 14))

/-- LOWER_f (R118). -/
def execLowerF (s : State) : Host.Outcome State Fault Refusal := .next (s.scanStep (.idx 15))

/-- LOWER_g (R118). -/
def execLowerG (s : State) : Host.Outcome State Fault Refusal := .next (s.scanStep (.idx 16))

/-- LOWER_h (R118). -/
def execLowerH (s : State) : Host.Outcome State Fault Refusal := .next (s.scanStep (.idx 17))

/-- LOWER_i (R118). -/
def execLowerI (s : State) : Host.Outcome State Fault Refusal := .next (s.scanStep (.idx 18))

/-- LOWER_j (R118). -/
def execLowerJ (s : State) : Host.Outcome State Fault Refusal := .next (s.scanStep (.idx 19))

/-- LOWER_k (R118). -/
def execLowerK (s : State) : Host.Outcome State Fault Refusal := .next (s.scanStep (.idx 20))

/-- LOWER_l (R118). -/
def execLowerL (s : State) : Host.Outcome State Fault Refusal := .next (s.scanStep (.idx 21))

/-- LOWER_m (R118). -/
def execLowerM (s : State) : Host.Outcome State Fault Refusal := .next (s.scanStep (.idx 22))

/-- LOWER_n (R118). -/
def execLowerN (s : State) : Host.Outcome State Fault Refusal := .next (s.scanStep (.idx 23))

/-- LOWER_o (R118). -/
def execLowerO (s : State) : Host.Outcome State Fault Refusal := .next (s.scanStep (.idx 24))

/-- LOWER_p (R118). -/
def execLowerP (s : State) : Host.Outcome State Fault Refusal := .next (s.scanStep (.idx 25))

/-- LOWER_q (R118). -/
def execLowerQ (s : State) : Host.Outcome State Fault Refusal := .next (s.scanStep (.idx 26))

/-- LOWER_r (R118). -/
def execLowerR (s : State) : Host.Outcome State Fault Refusal := .next (s.scanStep (.idx 27))

/-- LOWER_s (R118). -/
def execLowerS (s : State) : Host.Outcome State Fault Refusal := .next (s.scanStep (.idx 28))

/-- LOWER_t (R118). -/
def execLowerT (s : State) : Host.Outcome State Fault Refusal := .next (s.scanStep (.idx 29))

/-- LOWER_u (R118). -/
def execLowerU (s : State) : Host.Outcome State Fault Refusal := .next (s.scanStep (.idx 30))

/-- LOWER_v (R118). -/
def execLowerV (s : State) : Host.Outcome State Fault Refusal := .next (s.scanStep (.idx 31))

/-- LOWER_w (R118). -/
def execLowerW (s : State) : Host.Outcome State Fault Refusal := .next (s.scanStep (.idx 32))

/-- LOWER_x (R118). -/
def execLowerX (s : State) : Host.Outcome State Fault Refusal := .next (s.scanStep (.idx 33))

/-- LOWER_y (R118). -/
def execLowerY (s : State) : Host.Outcome State Fault Refusal := .next (s.scanStep (.idx 34))

/-- LOWER_z (R118). -/
def execLowerZ (s : State) : Host.Outcome State Fault Refusal := .next (s.scanStep (.idx 35))

/-- UPPER_A (R119). -/
def execUpperA (s : State) : Host.Outcome State Fault Refusal := .next (s.scanStep (.idx 10))

/-- UPPER_B (R119). -/
def execUpperB (s : State) : Host.Outcome State Fault Refusal := .next (s.scanStep (.idx 11))

/-- UPPER_C (R119). -/
def execUpperC (s : State) : Host.Outcome State Fault Refusal := .next (s.scanStep (.idx 12))

/-- UPPER_D (R119). -/
def execUpperD (s : State) : Host.Outcome State Fault Refusal := .next (s.scanStep (.idx 13))

/-- UPPER_E (R119). -/
def execUpperE (s : State) : Host.Outcome State Fault Refusal := .next (s.scanStep (.idx 14))

/-- UPPER_F (R119). -/
def execUpperF (s : State) : Host.Outcome State Fault Refusal := .next (s.scanStep (.idx 15))

/-- UPPER_G (R119). -/
def execUpperG (s : State) : Host.Outcome State Fault Refusal := .next (s.scanStep (.idx 16))

/-- UPPER_H (R119). -/
def execUpperH (s : State) : Host.Outcome State Fault Refusal := .next (s.scanStep (.idx 17))

/-- UPPER_I (R119). -/
def execUpperI (s : State) : Host.Outcome State Fault Refusal := .next (s.scanStep (.idx 18))

/-- UPPER_J (R119). -/
def execUpperJ (s : State) : Host.Outcome State Fault Refusal := .next (s.scanStep (.idx 19))

/-- UPPER_K (R119). -/
def execUpperK (s : State) : Host.Outcome State Fault Refusal := .next (s.scanStep (.idx 20))

/-- UPPER_L (R119). -/
def execUpperL (s : State) : Host.Outcome State Fault Refusal := .next (s.scanStep (.idx 21))

/-- UPPER_M (R119). -/
def execUpperM (s : State) : Host.Outcome State Fault Refusal := .next (s.scanStep (.idx 22))

/-- UPPER_N (R119). -/
def execUpperN (s : State) : Host.Outcome State Fault Refusal := .next (s.scanStep (.idx 23))

/-- UPPER_O (R119). -/
def execUpperO (s : State) : Host.Outcome State Fault Refusal := .next (s.scanStep (.idx 24))

/-- UPPER_P (R119). -/
def execUpperP (s : State) : Host.Outcome State Fault Refusal := .next (s.scanStep (.idx 25))

/-- UPPER_Q (R119). -/
def execUpperQ (s : State) : Host.Outcome State Fault Refusal := .next (s.scanStep (.idx 26))

/-- UPPER_R (R119). -/
def execUpperR (s : State) : Host.Outcome State Fault Refusal := .next (s.scanStep (.idx 27))

/-- UPPER_S (R119). -/
def execUpperS (s : State) : Host.Outcome State Fault Refusal := .next (s.scanStep (.idx 28))

/-- UPPER_T (R119). -/
def execUpperT (s : State) : Host.Outcome State Fault Refusal := .next (s.scanStep (.idx 29))

/-- UPPER_U (R119). -/
def execUpperU (s : State) : Host.Outcome State Fault Refusal := .next (s.scanStep (.idx 30))

/-- UPPER_V (R119). -/
def execUpperV (s : State) : Host.Outcome State Fault Refusal := .next (s.scanStep (.idx 31))

/-- UPPER_W (R119). -/
def execUpperW (s : State) : Host.Outcome State Fault Refusal := .next (s.scanStep (.idx 32))

/-- UPPER_X (R119). -/
def execUpperX (s : State) : Host.Outcome State Fault Refusal := .next (s.scanStep (.idx 33))

/-- UPPER_Y (R119). -/
def execUpperY (s : State) : Host.Outcome State Fault Refusal := .next (s.scanStep (.idx 34))

/-- UPPER_Z (R119). -/
def execUpperZ (s : State) : Host.Outcome State Fault Refusal := .next (s.scanStep (.idx 35))

/-- WS_HT (R120). -/
def execWsHt (s : State) : Host.Outcome State Fault Refusal := .next (s.scanStep (whitespaceOr s.par.whitespace 0x09#8 .unsupported))

/-- WS_LF (R120). -/
def execWsLf (s : State) : Host.Outcome State Fault Refusal := .next (s.scanStep (whitespaceOr s.par.whitespace 0x0A#8 .unsupported))

/-- WS_VT (R120). -/
def execWsVt (s : State) : Host.Outcome State Fault Refusal := .next (s.scanStep (whitespaceOr s.par.whitespace 0x0B#8 .unsupported))

/-- WS_FF (R120). -/
def execWsFf (s : State) : Host.Outcome State Fault Refusal := .next (s.scanStep (whitespaceOr s.par.whitespace 0x0C#8 .unsupported))

/-- WS_CR (R120). -/
def execWsCr (s : State) : Host.Outcome State Fault Refusal := .next (s.scanStep (whitespaceOr s.par.whitespace 0x0D#8 .unsupported))

/-- WS_SP (R120). -/
def execWsSp (s : State) : Host.Outcome State Fault Refusal := .next (s.scanStep (whitespaceOr s.par.whitespace 0x20#8 .unsupported))

/-- GLYPH_PLAY (R121). -/
def execGlyphPlay (s : State) : Host.Outcome State Fault Refusal := .next (s.scanStep (whitespaceOr s.par.whitespace 0x80#8 (.idx 37)))

/-- GLYPH_PAUSE (R122). -/
def execGlyphPause (s : State) : Host.Outcome State Fault Refusal := .next (s.scanStep (whitespaceOr s.par.whitespace 0x81#8 (.idx 38)))

/-- GLYPH_STOP (R123). -/
def execGlyphStop (s : State) : Host.Outcome State Fault Refusal := .next (s.scanStep (whitespaceOr s.par.whitespace 0x82#8 (.idx 39)))

/-- SEG_CENTER (R124). -/
def execSegCenter (s : State) : Host.Outcome State Fault Refusal := .next (s.scanStep (whitespaceOr s.par.whitespace 0x83#8 (.idx 40)))

/-- SEG_TOP (R125). -/
def execSegTop (s : State) : Host.Outcome State Fault Refusal := .next (s.scanStep (whitespaceOr s.par.whitespace 0x84#8 (.idx 41)))

/-- SEG_TOP_RIGHT (R126). -/
def execSegTopRight (s : State) : Host.Outcome State Fault Refusal := .next (s.scanStep (whitespaceOr s.par.whitespace 0x85#8 (.idx 42)))

/-- SEG_BOTTOM_RIGHT (R127). -/
def execSegBottomRight (s : State) : Host.Outcome State Fault Refusal := .next (s.scanStep (whitespaceOr s.par.whitespace 0x86#8 (.idx 43)))

/-- SEG_BOTTOM (R128). -/
def execSegBottom (s : State) : Host.Outcome State Fault Refusal := .next (s.scanStep (whitespaceOr s.par.whitespace 0x87#8 (.idx 44)))

/-- SEG_BOTTOM_LEFT (R129). -/
def execSegBottomLeft (s : State) : Host.Outcome State Fault Refusal := .next (s.scanStep (whitespaceOr s.par.whitespace 0x88#8 (.idx 45)))

/-- SEG_TOP_LEFT (R130). -/
def execSegTopLeft (s : State) : Host.Outcome State Fault Refusal := .next (s.scanStep (whitespaceOr s.par.whitespace 0x89#8 (.idx 46)))

/-- UNSUPPORTED (R131). -/
def execUnsupported (c : Byte) (s : State) : Host.Outcome State Fault Refusal := .next (s.scanStep (whitespaceOr s.par.whitespace c .unsupported))

end Sys2Proof.Machine
end

