-- ==== Sys2Proof/Machine/Operands.lean ====
section
/-! DEFINITION. The operand forms: the bits of a pattern in sending order, the line-event formats (R86 to R89), and the
length HostWrite passes on (R161 to R163). -/

namespace Sys2Proof.Machine

/-- The bits of a pattern, bit 0 first (R55). -/
def patternBits (p : Pattern) : List Bool := (List.range 8).map fun k => p.getLsbD k

/-- The serial stream of a frame: slot 0 first, bit 0 first in each slot (R56). -/
def stream (f : List Pattern) : List Bool := f.flatMap patternBits

/-- The format BITCELL (R89). -/
def bitCell (b : Bool) : List Event := [(.clock, false), (.data, b), (.clock, true)]

/-- The format COMMIT (R89). -/
def commitEvents : List Event := [(.strobe, true), (.strobe, false)]

/-- The events of one byte: eight bit cells, bit 0 first (R89). -/
def byteEvents (p : Pattern) : List Event := (patternBits p).flatMap bitCell

/-- The events of one frame transmission: 8×N bit cells and one commit (R89). -/
def frameEvents (f : List Pattern) : List Event := f.flatMap byteEvents ++ commitEvents

/-- Truncation: the write keeps its first 2×N bytes when TRUNCATE holds (R161). -/
def truncatedLength (truncate : Bool) (n : Nat) (len : Nat) : Nat := if truncate then min len (2 * n) else len

/-- Stripping: drops every trailing CR or LF among the first `m` bytes (R162). -/
def strippedLength (buf : List Byte) : Nat → Nat
  | 0 => 0
  | m + 1 =>
    match buf[m]? with
    | some c => if c = 0x0A#8 ∨ c = 0x0D#8 then strippedLength buf m else m + 1
    | none => m + 1

/-- The length HostWrite hands to Render: truncate first, then strip (R160, R163). -/
def hostLength (cfg : Cfg) (par : Params) (buf : List Byte) : Nat :=
  let m := truncatedLength par.truncate cfg.n buf.length
  if par.stripCrlf then strippedLength buf m else m

end Sys2Proof.Machine
end

