-- ==== Sys2Proof/Machine/Transmitter.lean ====
section
/-! DEFINITION. The SerialTransmitter's operations on the lines (43_transmitter.md, section 1). -/

namespace Sys2Proof.Machine

/-- `sendBit(b)`: CLOCK low, DATA, CLOCK high (R190). -/
def Bank.sendBit (chainBits : Nat) (v : Bool) (b : Bank) : Bank :=
  ((b.setLine chainBits .clock false).setLine chainBits .data v).setLine chainBits .clock true

/-- `sendByte(p)`: eight bits, bit 0 first (R191). -/
def Bank.sendByte (chainBits : Nat) (p : Pattern) (b : Bank) : Bank :=
  (List.range 8).foldl (fun b k => b.sendBit chainBits (p.getLsbD k)) b

/-- `commit()`: one pulse on STROBE (R192). -/
def Bank.commit (chainBits : Nat) (b : Bank) : Bank :=
  (b.setLine chainBits .strobe true).setLine chainBits .strobe false

/-- `transmitFrame(F)`: slot 0 first, then one commit (R193). -/
def Bank.transmit (chainBits : Nat) (f : List Pattern) (b : Bank) : Bank :=
  (f.foldl (fun b p => b.sendByte chainBits p) b).commit chainBits

/-- `SetLine(line, v)` on the machine (R231). -/
def State.setLine (l : Line) (v : Bool) (s : State) : State := s.withBank (s.bank.setLine s.par.chainBits l v)

/-- `transmitFrame(F)` on the machine (R193). -/
def State.transmit (f : List Pattern) (s : State) : State := s.withBank (s.bank.transmit s.par.chainBits f)

end Sys2Proof.Machine
end

