-- ==== Sys2Proof/Machine/Transactions.lean ====
section
/-! DEFINITION. The host transactions: the preconditions and refusals of Setup, Render and HostWrite, their acceptance, and
their run to completion (42_renderer.md, 60_exceptions.md, 70_reset_and_hazards.md). -/

namespace Sys2Proof.Machine

/-- Why Render or HostWrite is refused whatever its buffer, the first condition in the order of R150 and R271. -/
def State.portRefusal (s : State) : Option (List Reason) :=
  if s.seq = .unconfigured then some [.notSetUp]
  else if s.ready = false then some [.notReady]
  else if s.busy then some [.busy]
  else none

/-- Why Render(buf, len) is refused (R150). -/
def State.renderRefusal (buf : List Byte) (len : Nat) (s : State) : Option (List Reason) :=
  match s.portRefusal with
  | some r => some r
  | none => if buf.length < len then some [.lengthExceedsBuffer] else none

/-- The names of a Setup's refusal in an illegal configuration, which R271 puts in one place, BadConfig/NotSetUp: BadConfig
(R291), and NotSetUp too once startup refused that configuration (R264, log 15). -/
def State.configRefusal (s : State) : List Reason := .badConfig :: (if s.configRefused then [.notSetUp] else [])

/-- Why Setup is refused (R291, R264; the order among the conditions is that of R291's list, log 15). -/
def State.setupRefusal (s : State) : Option (List Reason) :=
  if s.cfg.valid = false then some s.configRefusal
  else if s.ready = false then some [.notReady]
  else if s.seq ≠ .unconfigured then some [.alreadySetUp]
  else none

/-- The acceptance of Render(buf, len): the request is taken, SEQ <- COMPUTE, and the scan starts (R150, R152, log 14). -/
def State.accept (buf : List Byte) (len : Nat) (s : State) : State :=
  (((s.withRequest (Memory.load buf) len).withScan (s.scan.start len)).withSeq .compute).withVerdict .accepted

/-- The rest of an accepted Render: `F <- renderFrame(buf, len); transmitFrame(F); SEQ <- IDLE` (R150). -/
def State.complete (s : State) : State :=
  let t := s.renderFrame s.input.bytes s.len
  (t.transmit t.scan.frame).withSeq .idle

/-- Render(buf, len) presented on the port: refused, or accepted with SEQ at COMPUTE. -/
def State.presentRender (buf : List Byte) (len : Nat) (s : State) : State :=
  match s.renderRefusal buf len with
  | some r => s.refuse r
  | none => s.accept buf len

/-- Render(buf, len) run to completion: refused with no effect, or the whole pseudocode of R150. -/
def State.runRender (buf : List Byte) (len : Nat) (s : State) : State :=
  match s.renderRefusal buf len with
  | some r => s.refuse r
  | none => (s.accept buf len).complete

/-- Setup: refused with no effect, or `SetLine(OE, OE_SETUP_LEVEL); SEQ <- IDLE` (R291). -/
def State.runSetup (s : State) : State :=
  match s.setupRefusal with
  | some r => s.refuse r
  | none => ((s.setLine .oe s.par.oeSetupLevel).withSeq .idle).withVerdict .accepted

end Sys2Proof.Machine
end

