-- ==== Sys2Proof/Machine/Operations.lean ====
section
/-! DEFINITION. The meanings of the host transactions and of the internal operations. An internal operation that is run
alone checks no sequencer state: its rule names no precondition (log 18). -/

namespace Sys2Proof.Machine

/-- SETUP (R291). -/
def execSetup (s : State) : Host.Outcome State Fault Refusal := .next s.runSetup

/-- RENDER: the whole transaction (R150, R12). -/
def execRender (buf : List Byte) (len : Nat) (s : State) : Host.Outcome State Fault Refusal := .next (s.runRender buf len)

/-- HOSTWRITE: truncate, strip, then the whole Render (R160). -/
def execHostwrite (buf : List Byte) (s : State) : Host.Outcome State Fault Refusal :=
  .next (s.runRender buf (hostLength s.cfg s.par buf))

/-- RENDERFRAME (R151). A length beyond the buffer would read a byte that does not exist (R51): refused. -/
def execRenderframe (buf : List Byte) (len : Nat) (s : State) : Host.Outcome State Fault Refusal :=
  if len ≤ buf.length then .next (s.renderFrame buf len) else .refused .lengthBeyondBuffer

/-- LOOKUP (R110): it returns entry k and writes nothing; the value stands in the model's `ret`. -/
def execLookup (k : Nat) (s : State) : Host.Outcome State Fault Refusal :=
  if k ≤ 46 then .next (s.withRet (.pattern (lookup s.table k))) else .refused .lookupIndex

/-- CLASSIFY (R114): it returns the class and writes nothing; the value stands in the model's `ret`. -/
def execClassify (c : Byte) (s : State) : Host.Outcome State Fault Refusal :=
  .next (s.withRet (.cls (classify s.par.whitespace c)))

/-- SENDBIT (R190). -/
def execSendbit (v : Bool) (s : State) : Host.Outcome State Fault Refusal :=
  .next (s.withBank (s.bank.sendBit s.par.chainBits v))

/-- SENDBYTE (R191). -/
def execSendbyte (p : Pattern) (s : State) : Host.Outcome State Fault Refusal :=
  .next (s.withBank (s.bank.sendByte s.par.chainBits p))

/-- COMMIT (R192). -/
def execCommit (s : State) : Host.Outcome State Fault Refusal := .next (s.withBank (s.bank.commit s.par.chainBits))

/-- TRANSMITFRAME (R193). Its operand is a frame, exactly N patterns (R9). -/
def execTransmitframe (f : List Pattern) (s : State) : Host.Outcome State Fault Refusal :=
  if f.length = s.cfg.n then .next (s.transmit f) else .refused .notAFrame

/-- SETLINE (R231). -/
def execSetline (l : Line) (v : Bool) (s : State) : Host.Outcome State Fault Refusal := .next (s.setLine l v)

end Sys2Proof.Machine
end

