-- ==== Sys2Proof/Machine/Dispatch.lean ====
section
/-! DEFINITION. One arm per instruction, each one call of its meaning. -/

namespace Sys2Proof.Machine

def exec (i : Instr) (s : State) : Host.Outcome State Fault Refusal :=
  match i with
  | .dotPeriod => Sys2Proof.Machine.execDotPeriod s
  | .dotColon => Sys2Proof.Machine.execDotColon s
  | .digit0 => Sys2Proof.Machine.execDigit0 s
  | .digit1 => Sys2Proof.Machine.execDigit1 s
  | .digit2 => Sys2Proof.Machine.execDigit2 s
  | .digit3 => Sys2Proof.Machine.execDigit3 s
  | .digit4 => Sys2Proof.Machine.execDigit4 s
  | .digit5 => Sys2Proof.Machine.execDigit5 s
  | .digit6 => Sys2Proof.Machine.execDigit6 s
  | .digit7 => Sys2Proof.Machine.execDigit7 s
  | .digit8 => Sys2Proof.Machine.execDigit8 s
  | .digit9 => Sys2Proof.Machine.execDigit9 s
  | .lowerA => Sys2Proof.Machine.execLowerA s
  | .lowerB => Sys2Proof.Machine.execLowerB s
  | .lowerC => Sys2Proof.Machine.execLowerC s
  | .lowerD => Sys2Proof.Machine.execLowerD s
  | .lowerE => Sys2Proof.Machine.execLowerE s
  | .lowerF => Sys2Proof.Machine.execLowerF s
  | .lowerG => Sys2Proof.Machine.execLowerG s
  | .lowerH => Sys2Proof.Machine.execLowerH s
  | .lowerI => Sys2Proof.Machine.execLowerI s
  | .lowerJ => Sys2Proof.Machine.execLowerJ s
  | .lowerK => Sys2Proof.Machine.execLowerK s
  | .lowerL => Sys2Proof.Machine.execLowerL s
  | .lowerM => Sys2Proof.Machine.execLowerM s
  | .lowerN => Sys2Proof.Machine.execLowerN s
  | .lowerO => Sys2Proof.Machine.execLowerO s
  | .lowerP => Sys2Proof.Machine.execLowerP s
  | .lowerQ => Sys2Proof.Machine.execLowerQ s
  | .lowerR => Sys2Proof.Machine.execLowerR s
  | .lowerS => Sys2Proof.Machine.execLowerS s
  | .lowerT => Sys2Proof.Machine.execLowerT s
  | .lowerU => Sys2Proof.Machine.execLowerU s
  | .lowerV => Sys2Proof.Machine.execLowerV s
  | .lowerW => Sys2Proof.Machine.execLowerW s
  | .lowerX => Sys2Proof.Machine.execLowerX s
  | .lowerY => Sys2Proof.Machine.execLowerY s
  | .lowerZ => Sys2Proof.Machine.execLowerZ s
  | .upperA => Sys2Proof.Machine.execUpperA s
  | .upperB => Sys2Proof.Machine.execUpperB s
  | .upperC => Sys2Proof.Machine.execUpperC s
  | .upperD => Sys2Proof.Machine.execUpperD s
  | .upperE => Sys2Proof.Machine.execUpperE s
  | .upperF => Sys2Proof.Machine.execUpperF s
  | .upperG => Sys2Proof.Machine.execUpperG s
  | .upperH => Sys2Proof.Machine.execUpperH s
  | .upperI => Sys2Proof.Machine.execUpperI s
  | .upperJ => Sys2Proof.Machine.execUpperJ s
  | .upperK => Sys2Proof.Machine.execUpperK s
  | .upperL => Sys2Proof.Machine.execUpperL s
  | .upperM => Sys2Proof.Machine.execUpperM s
  | .upperN => Sys2Proof.Machine.execUpperN s
  | .upperO => Sys2Proof.Machine.execUpperO s
  | .upperP => Sys2Proof.Machine.execUpperP s
  | .upperQ => Sys2Proof.Machine.execUpperQ s
  | .upperR => Sys2Proof.Machine.execUpperR s
  | .upperS => Sys2Proof.Machine.execUpperS s
  | .upperT => Sys2Proof.Machine.execUpperT s
  | .upperU => Sys2Proof.Machine.execUpperU s
  | .upperV => Sys2Proof.Machine.execUpperV s
  | .upperW => Sys2Proof.Machine.execUpperW s
  | .upperX => Sys2Proof.Machine.execUpperX s
  | .upperY => Sys2Proof.Machine.execUpperY s
  | .upperZ => Sys2Proof.Machine.execUpperZ s
  | .wsHt => Sys2Proof.Machine.execWsHt s
  | .wsLf => Sys2Proof.Machine.execWsLf s
  | .wsVt => Sys2Proof.Machine.execWsVt s
  | .wsFf => Sys2Proof.Machine.execWsFf s
  | .wsCr => Sys2Proof.Machine.execWsCr s
  | .wsSp => Sys2Proof.Machine.execWsSp s
  | .glyphPlay => Sys2Proof.Machine.execGlyphPlay s
  | .glyphPause => Sys2Proof.Machine.execGlyphPause s
  | .glyphStop => Sys2Proof.Machine.execGlyphStop s
  | .segCenter => Sys2Proof.Machine.execSegCenter s
  | .segTop => Sys2Proof.Machine.execSegTop s
  | .segTopRight => Sys2Proof.Machine.execSegTopRight s
  | .segBottomRight => Sys2Proof.Machine.execSegBottomRight s
  | .segBottom => Sys2Proof.Machine.execSegBottom s
  | .segBottomLeft => Sys2Proof.Machine.execSegBottomLeft s
  | .segTopLeft => Sys2Proof.Machine.execSegTopLeft s
  | .unsupported c => Sys2Proof.Machine.execUnsupported c s
  | .setup => Sys2Proof.Machine.execSetup s
  | .render buf len => Sys2Proof.Machine.execRender buf len s
  | .hostwrite buf => Sys2Proof.Machine.execHostwrite buf s
  | .renderframe buf len => Sys2Proof.Machine.execRenderframe buf len s
  | .lookup k => Sys2Proof.Machine.execLookup k s
  | .classify c => Sys2Proof.Machine.execClassify c s
  | .sendbit v => Sys2Proof.Machine.execSendbit v s
  | .sendbyte p => Sys2Proof.Machine.execSendbyte p s
  | .commit => Sys2Proof.Machine.execCommit s
  | .transmitframe f => Sys2Proof.Machine.execTransmitframe f s
  | .setline l v => Sys2Proof.Machine.execSetline l v s

end Sys2Proof.Machine
end

