-- ==== Sys2Proof/Machine/Sequencer.lean ====
section
/-! DEFINITION. What one step of the machine does: the block's sequencer, one line event a step (R195), the host's inputs
between its steps (R230), and how an opcode-table word is placed where the next step reads it. -/

namespace Sys2Proof.Machine

/-- SEQ after the CLK_HIGH phase of bit k of slot j (R195). -/
def seqAfterBit (n j : Nat) (k : Fin 8) : Seq :=
  if h : k.val < 7 then .shift j ⟨k.val + 1, by omega⟩ .clkLow
  else if j + 1 < n then .shift (j + 1) 0 .clkLow
  else .strobeHigh

/-- The operation the sequencer runs at a SEQ value inside a transaction and the SEQ value after it: the table of R195, with
renderFrame at COMPUTE. None while no transaction is in flight. -/
def State.issue (s : State) : Except Fault (Option (Instr × Seq)) :=
  match s.seq with
  | .unconfigured => .ok none
  | .idle => .ok none
  | .compute =>
    if s.len ≤ s.input.size then .ok (some (.renderframe s.input.bytes s.len, .shift 0 0 .clkLow))
    else .error .noInputByte
  | .shift j k ph =>
    if s.cfg.n ≤ j then .error .noFrameSlot
    else
      match s.scan.frame[j]? with
      | none => .error .noFrameSlot
      | some p =>
        match ph with
        | .clkLow => .ok (some (.setline .clock false, .shift j k .dataSet))
        | .dataSet => .ok (some (.setline .data (p.getLsbD k.val), .shift j k .clkHigh))
        | .clkHigh => .ok (some (.setline .clock true, seqAfterBit s.cfg.n j k))
  | .strobeHigh => .ok (some (.setline .strobe true, .strobeLow))
  | .strobeLow => .ok (some (.setline .strobe false, .idle))

/-- Runs an operation and then moves SEQ. -/
def execThen (i : Instr) (next : Seq) (s : State) : Host.Outcome State Fault Refusal :=
  match exec i s with
  | .next t => .next (t.withSeq next)
  | .fault f => .fault f
  | .refused r => .refused r

/-- The block's own step (R195). With no transaction in flight the block waits (R276, log 22). -/
def State.blockStep (s : State) : Host.Outcome State Fault Refusal :=
  match s.issue with
  | .error f => .fault f
  | .ok none => .next s
  | .ok (some (i, next)) => execThen i next s

/-- One byte of COMPUTE (log 11): the byte at `In[i − 1]` is decoded and run; when the scan has stopped, the frame is padded
(R157) and the transmission begins. -/
def State.byteStep (s : State) : Host.Outcome State Fault Refusal :=
  if s.scan.goesOn s.cfg.n then
    match s.input.read (s.scan.i - 1) with
    | some c =>
      match decode [c] with
      | .ok (i, _) => exec i s
      | .error _ => .fault .noInputByte
    | none => .fault .noInputByte
  else .next ((s.withScan (s.scan.pad s.cfg.n)).withSeq (.shift 0 0 .clkLow))

/-- A transaction presented on the port. Setup runs at once; Render and HostWrite are accepted, and the sequencer runs
them (R150, R160, R195), or they are refused. -/
def State.present (t : Txn) (s : State) : State :=
  match t with
  | .setup => s.runSetup
  | .render buf len => s.presentRender buf len
  | .hostwrite buf => s.presentRender buf (hostLength s.cfg s.par buf)

/-- One input of the host side. -/
def State.land (x : HostInput) (s : State) : State :=
  match x with
  | .wait => s
  | .present t => s.present t
  | .ready v => s.withReady v
  | .store a b => s.withInput (s.input.write a b)

/-- The first input still to come, if there is one. -/
def State.landNext (s : State) : State :=
  match s.host with
  | [] => s
  | x :: rest => (s.land x).withHost rest

/-- One step of the machine. In COMPUTE the host has no input (R301); otherwise the host's next input comes first, and a
block that was in flight then takes its own step, whatever the input was (R196). -/
def machineStep (s : State) : Host.Outcome State Fault Refusal :=
  if s.seq = .compute then (if s.byteGrain then s.byteStep else s.blockStep)
  else if s.busy then s.landNext.blockStep
  else .next s.landNext

/-- The state in which the next step decodes and runs the byte of an opcode-table word: COMPUTE, one byte a step, with that
byte alone in the buffer and not yet scanned (log 11). -/
def State.placeWord (nbits w : Nat) (s : State) : State :=
  { s with
    seq := .compute
    byteGrain := true
    input := Memory.load ((tableBytes nbits w).take 1)
    len := 1
    scan := { s.scan with i := 1, count := 0 } }

end Sys2Proof.Machine
end

