-- ==== Sys2Proof/Machine/Step.lean ====
section
/-! DEFINITION. The step of the machine, and the placing of an opcode-table word. -/

namespace Sys2Proof.Machine

/-- One step: the host's next input and the sequencer's next event (43_transmitter.md, section 2). -/
def step (s : State) : Host.Outcome State Fault Refusal := machineStep s

/-- `s` with an opcode-table word placed where the next step reads its instruction. -/
def State.withFetchWord (s : State) (nbits w : Nat) : State := s.placeWord nbits w

end Sys2Proof.Machine
end

