-- ==== Sys2Proof/Machine/Display.lean ====
section
/-! DEFINITION. What can be observed of the lines and of the display: the events on the platform's pins (R231), the chain's
outputs (R243), the lit elements by SEG_WIRING and the digit map (R247), and the display order (R57). -/

namespace Sys2Proof.Machine

/-- The events on the platform's lines: each role's identifier in CFG (R231). -/
def State.pinTrace (s : State) : List (Nat × Bool) := s.bank.trace.map fun e => (s.cfg.pin e.1, e.2)

/-- What the chain's outputs present: L while OE is at OE_ACTIVE_LEVEL, otherwise nothing (R243). -/
def State.outputs (s : State) : Option (List Bool) :=
  if s.bank.lv.oe = s.par.oeActiveLevel then some s.bank.latch else none

/-- One light of a digit: its decimal point or one of its segments (R86). -/
inductive Light where
  | decimalPoint
  | segment (x : Config.Segment)
  deriving DecidableEq, Repr

/-- The pattern bit held at a latch position: bit k of a slot is at position 7 − k of its eight (R244). -/
def bitOfPosition (q : Nat) : Nat := 7 - q % 8

/-- The light that a pattern bit drives, by SEG_WIRING (R86). -/
def Params.light (p : Params) (bit : Nat) : Option Light :=
  if bit = 0 then some .decimalPoint else (p.segWiring.order[bit - 1]?).map .segment

/-- Whether latch position `q` lights light `x` of physical digit `d` (R243, R247). -/
def State.lights (s : State) (d : Nat) (x : Light) (q : Nat) : Bool :=
  decide (s.par.digitMap[q]? = some d) && decide (s.par.light (bitOfPosition q) = some x) &&
    match s.outputs with
    | none => false
    | some l => l.getD q false

/-- Whether light `x` of physical digit `d` is lit. -/
def State.lit (s : State) (d : Nat) (x : Light) : Bool := (List.range s.par.chainBits).any (s.lights d x)

/-- The frame as the display shows it from left to right: F[N−1], …, F[0] (R57). -/
def State.displayOrder (s : State) : List Pattern := s.scan.frame.reverse

/-- The eight latch bits of frame slot j, bit 0 of the slot first (R244). -/
def State.latchedSlot (s : State) (j : Nat) : List Bool :=
  ((s.bank.latch.drop (8 * (s.cfg.n - 1 - j))).take 8).reverse

/-- The named assumption of R113 about PATTERN_TABLE: entries 40..46 are one-hot in bits 7..1, on seven different bits. The
model assumes it nowhere. -/
def singleSegmentGlyphs (table : List Pattern) : Bool :=
  let segs := (List.range 7).map fun k => (lookupBits table (40 + k))
  segs.all (fun l => l.count true == 1) && decide segs.Nodup
where
  /-- Bits 7..1 of a table entry. -/
  lookupBits (table : List Pattern) (k : Nat) : List Bool := (patternBits (table.getD k 0x00#8)).drop 1

end Sys2Proof.Machine
end

