-- ==== Sys2Proof/Safety.lean ====
section
/-! DEFINITION. The terms the statements use: the shape of a state, the invariant of the machine, the line disciplines, and
what a safe step is. -/

namespace Sys2Proof.Machine

/-- The sizes that the spec fixes and the canonical form of the input buffer. Every instruction keeps it. -/
structure State.Shape (s : State) : Prop where
  /-- The input buffer is in canonical form. -/
  memory : s.input.wf = true
  /-- The request's length is within its buffer (R51). -/
  length : s.len ≤ s.input.size
  /-- `count` is in 0..N (R30). -/
  emitted : s.scan.count ≤ s.cfg.n
  /-- F has N slots (R31). -/
  frame : s.scan.frame.length = s.cfg.n
  /-- S has CHAIN_BITS bits (R35). -/
  shiftBits : s.bank.shift.length = s.par.chainBits
  /-- L has CHAIN_BITS bits (R36). -/
  latchBits : s.bank.latch.length = s.par.chainBits
  /-- The PatternTable has 47 entries (R52). -/
  entries : s.table.length = 47

/-- The invariant of the machine's own steps. -/
structure State.Inv (s : State) : Prop extends State.Shape s where
  /-- The scan position is within the request (R28). -/
  position : s.scan.i ≤ s.len
  /-- SHIFT's j is in 0..N−1 (R26). -/
  slot : ∀ j k ph, s.seq = .shift j k ph → j < s.cfg.n
  /-- The block leaves UNCONFIGURED only with a legal configuration (R264). -/
  configured : s.seq ≠ .unconfigured → s.cfg.valid = true
  /-- Startup refused the configuration exactly if it is not legal (R23, R264). -/
  startup : s.configRefused = !s.cfg.valid

/-- STROBE is high only between the two edges of the commit pulse (R192, R293). -/
def State.StrobeQuiet (s : State) : Prop := s.seq ≠ .strobeLow → s.bank.lv.strobe = false

/-- The number of events on a line. -/
def eventCount (l : Line) (es : List Event) : Nat := es.countP fun e => decide (e.1 = l)

/-- OE is driven once, by Setup, and holds OE_SETUP_LEVEL from then on (R33, R233, R291). -/
def State.OeDrivenOnce (s : State) : Prop :=
  (s.seq = .unconfigured → eventCount .oe s.bank.trace = 0) ∧
    (s.seq ≠ .unconfigured → eventCount .oe s.bank.trace = 1 ∧ s.bank.lv.oe = s.par.oeSetupLevel)

/-- The level of the last event on a line. -/
def lastLevel (l : Line) (es : List Event) : Option Bool := (es.reverse.find? fun e => decide (e.1 = l)).map Prod.snd

/-- Each line holds the value of the last SetLine to it (R33). -/
def State.LevelsFollowTrace (s : State) : Prop :=
  ∀ l v, lastLevel l s.bank.trace = some v → s.bank.lv.get l = v

/-- Whether a byte is of a character class. -/
def isCharacter (c : ByteClass) : Bool :=
  match c with
  | .dot => false
  | .unsupported => false
  | .idx _ => true

/-- The index of a character class. -/
def classIndex (c : ByteClass) : Nat :=
  match c with
  | .dot => 0
  | .unsupported => 0
  | .idx k => k

/-- The class of `In[q]`. -/
def classAt (ws buf : List Byte) (q : Nat) : ByteClass := classify ws (buf.getD q 0x00#8)

/-- The positions `p_1 < … < p_m` of the supported bytes of `In[0..len−1]` (R159). -/
def supportedPositions (ws buf : List Byte) (len : Nat) : List Nat :=
  (List.range len).filter fun q => isCharacter (classAt ws buf q)

/-- Whether some byte at a position strictly between `p` and `p'` is DOT (R159). -/
def dotBetween (ws buf : List Byte) (p p' : Nat) : Bool :=
  (List.range p').any fun q => decide (p < q) && decide (classAt ws buf q = .dot)

/-- Slot `t` of the frame in text terms (R159): the t-th supported byte from the right with the dot of the gap to its right,
and 0x00 where there is none. -/
def textSlot (table : List Pattern) (ws buf : List Byte) (len t : Nat) : Pattern :=
  let ps := supportedPositions ws buf len
  let m := ps.length
  if t < m then
    let p := ps.getD (m - 1 - t) 0
    let right := if t = 0 then len else ps.getD (m - t) 0
    lookup table (classIndex (classAt ws buf p)) ||| (if dotBetween ws buf p right then 0x01#8 else 0x00#8)
  else 0x00#8

/-- A safe step: the machine neither faults nor refuses. -/
def State.StepsOn (s : State) : Prop := ∃ t, step s = .next t

/-- `k` steps of the machine, stopping at the first fault or refusal. -/
def runSteps : Nat → State → Host.Outcome State Fault Refusal
  | 0, s => .next s
  | k + 1, s =>
    match step s with
    | .next t => runSteps k t
    | .fault f => .fault f
    | .refused r => .refused r

end Sys2Proof.Machine
end

