-- ==== Sys2Proof/Certificates/Slice0/Obligations.lean ====
section
/-! DEFINITION. The statements for the provers. Each docstring names the rule it formalises, or the log entry where it is
the model's choice; "derived" stands beside a rule that the spec itself marks as derived from others, and D<n> names a decision
of 92_eei_decisions.md that a rule rests on. -/

open Sys2Proof Sys2Proof.Machine

/-! ### Encoding and classification -/

/-- R94 and R82 (derived): decoding the encoding of a well-formed instruction gives it back, whatever follows. -/
def Obligations.EncodedByteDecodesBack : Prop :=
  ∀ (i : Instr) (w rest : List Byte), i.wf = true → encode i = some w → decode (w ++ rest) = .ok (i, rest)

/-- R90: no input byte is illegal. Each decodes alone, to a well-formed instruction whose encoding it is. -/
def Obligations.EveryByteDecodesAndEncodes : Prop :=
  ∀ (c : Byte) (rest : List Byte), ∃ i : Instr, decode (c :: rest) = .ok (i, rest) ∧ i.wf = true ∧ encode i = some [c]

/-- R83: a few bytes written out bit by bit. -/
def Obligations.WrittenBytesDecode : Prop :=
  decode [0b00101110#8] = .ok (.dotPeriod, []) ∧ decode [0b00111010#8] = .ok (.dotColon, []) ∧
    decode [0b00110111#8] = .ok (.digit7, []) ∧ decode [0b01111010#8] = .ok (.lowerZ, []) ∧
    decode [0b01000001#8] = .ok (.upperA, []) ∧ decode [0b00100000#8] = .ok (.wsSp, []) ∧
    decode [0b10001001#8] = .ok (.segTopLeft, []) ∧ decode [0b10001010#8] = .ok (.unsupported 0x8A#8, [])

/-- R114 (D4, D5): CLASSIFY returns the class of the first matching line, in the model's `ret` (log 13), and changes nothing
else. -/
def Obligations.ClassifyFollowsThePrecedence : Prop :=
  ∀ (s : State) (c : Byte),
    exec (.classify c) s = .next { s with
      ret := .cls (
        if c.toNat = 0x2E ∨ c.toNat = 0x3A then .dot
        else if 0x30 ≤ c.toNat ∧ c.toNat ≤ 0x39 then .idx (c.toNat - 0x30)
        else if 0x61 ≤ c.toNat ∧ c.toNat ≤ 0x7A then .idx (c.toNat - 0x61 + 10)
        else if 0x41 ≤ c.toNat ∧ c.toNat ≤ 0x5A then .idx (c.toNat - 0x41 + 10)
        else if c ∈ s.par.whitespace then .idx 36
        else if 0x80 ≤ c.toNat ∧ c.toNat ≤ 0x89 then .idx (37 + (c.toNat - 0x80))
        else .unsupported) }

/-- R85 (derived): every class index is an index of the PatternTable, whatever the whitespace set. -/
def Obligations.ClassIndexWithinTheTable : Prop :=
  ∀ (ws : List Byte) (c : Byte) (k : Nat), classify ws c = .idx k → k ≤ 46

/-- R83 (derived; D4): with the default whitespace set the UNSUPPORTED bytes are exactly those of the UNSUPPORTED ranges, and the
bytes of class 36 exactly 0x09 to 0x0D and 0x20. Another set changes a byte's class only by taking the byte, and only where no
earlier row has it. -/
def Obligations.ByteMapOfTheDefaultSet : Prop :=
  (∀ c : Byte, classify Config.whitespaceSet c = .unsupported ↔ isUnsupportedByte c = true) ∧
    (∀ c : Byte, classify Config.whitespaceSet c = .idx 36 ↔ (0x09 ≤ c.toNat ∧ c.toNat ≤ 0x0D) ∨ c.toNat = 0x20) ∧
    (∀ (ws : List Byte) (c : Byte), c ∉ ws → classify ws c = classify [] c) ∧
    (∀ (ws : List Byte) (c : Byte), c ∈ ws →
      classify ws c = .idx 36 ∨ (classify ws c = classify [] c ∧ c.toNat ≤ 0x7A))

/-- R112 (derived): a letter's upper-case and lower-case bytes have one class and one meaning. -/
def Obligations.LetterCasesShareAnEntry : Prop :=
  ∀ (s : State) (j : Nat), j < 26 →
    classify s.par.whitespace (BitVec.ofNat 8 (0x41 + j)) = .idx (10 + j) ∧
      classify s.par.whitespace (BitVec.ofNat 8 (0x61 + j)) = .idx (10 + j) ∧
      exec (decodeByte (BitVec.ofNat 8 (0x41 + j))) s = exec (decodeByte (BitVec.ofNat 8 (0x61 + j))) s

/-! ### The bytes in the scan -/

/-- R153: a DOT byte sets the pending dot and moves on; nothing else changes. -/
def Obligations.DotByteSetsTheFlag : Prop :=
  ∀ (s : State) (c : Byte), classify s.par.whitespace c = .dot → s.scan.count < s.cfg.n → 0 < s.scan.i →
    exec (decodeByte c) s = .next { s with scan := { s.scan with i := s.scan.i - 1, dot := true } }

/-- R154 (D14): an UNSUPPORTED byte is passed over with the pending dot kept; nothing else changes. -/
def Obligations.UnsupportedByteKeepsTheFlag : Prop :=
  ∀ (s : State) (c : Byte), classify s.par.whitespace c = .unsupported → s.scan.count < s.cfg.n → 0 < s.scan.i →
    exec (decodeByte c) s = .next { s with scan := { s.scan with i := s.scan.i - 1 } }

/-- R155: a byte of class k emits T[k] with the pending dot into slot `count`, clears the dot and moves on; nothing else
changes. T[36] is 0x00 (R111). -/
def Obligations.SupportedByteEmits : Prop :=
  ∀ (s : State) (c : Byte) (k : Nat), classify s.par.whitespace c = .idx k → s.scan.count < s.cfg.n → 0 < s.scan.i →
    exec (decodeByte c) s = .next { s with
      scan :=
        { i := s.scan.i - 1
          dot := false
          count := s.scan.count + 1
          frame := s.scan.frame.set s.scan.count
            ((if k = 36 then 0x00#8 else s.table.getD k 0x00#8) ||| (if s.scan.dot then 0x01#8 else 0x00#8)) } }

/-- R156 and the model's choice of log 16: once N patterns are emitted, or no byte is left, a byte has no effect. -/
def Obligations.ByteAtTheStopHasNoEffect : Prop :=
  ∀ (i : Instr) (s : State), (encode i).isSome → (s.cfg.n ≤ s.scan.count ∨ s.scan.i = 0) → exec i s = .next s

/-- R115, R116, R131: the two DOT rows set the flag; an UNSUPPORTED row whose byte the whitespace set does not hold keeps
it. -/
def Obligations.DotAndUnsupportedRowsRun : Prop :=
  ∀ s : State, s.scan.count < s.cfg.n → 0 < s.scan.i →
    (∀ i : Instr, i = .dotPeriod ∨ i = .dotColon →
      exec i s = .next { s with scan := { s.scan with i := s.scan.i - 1, dot := true } }) ∧
    (∀ c : Byte, (Instr.unsupported c).wf = true → c ∉ s.par.whitespace →
      exec (.unsupported c) s = .next { s with scan := { s.scan with i := s.scan.i - 1 } })

/-- R117: digit byte 0x30 + k emits entry k. -/
def Obligations.DigitRowsEmit : Prop :=
  ∀ (s : State) (k : Nat) (i : Instr), s.scan.count < s.cfg.n → 0 < s.scan.i →
    ([.digit0, .digit1, .digit2, .digit3, .digit4, .digit5, .digit6, .digit7, .digit8, .digit9] : List Instr)[k]? = some i →
    encode i = some [BitVec.ofNat 8 (0x30 + k)] ∧
      exec i s = .next { s with
        scan :=
          { i := s.scan.i - 1
            dot := false
            count := s.scan.count + 1
            frame := s.scan.frame.set s.scan.count
              (s.table.getD k 0x00#8 ||| (if s.scan.dot then 0x01#8 else 0x00#8)) } }

/-- R118, R119: the LOWER rows have the bytes 0x61 + k and the UPPER rows the bytes 0x41 + k, and both emit entry 10 + k. -/
def Obligations.LetterRowsEmit : Prop :=
  ∀ (s : State) (k : Nat) (i : Instr), s.scan.count < s.cfg.n → 0 < s.scan.i →
    let emitted : State := { s with
      scan :=
        { i := s.scan.i - 1
          dot := false
          count := s.scan.count + 1
          frame := s.scan.frame.set s.scan.count
            (s.table.getD (10 + k) 0x00#8 ||| (if s.scan.dot then 0x01#8 else 0x00#8)) } }
    (([.lowerA, .lowerB, .lowerC, .lowerD, .lowerE, .lowerF, .lowerG, .lowerH, .lowerI, .lowerJ, .lowerK, .lowerL,
       .lowerM, .lowerN, .lowerO, .lowerP, .lowerQ, .lowerR, .lowerS, .lowerT, .lowerU, .lowerV, .lowerW, .lowerX,
       .lowerY, .lowerZ] : List Instr)[k]? = some i →
      encode i = some [BitVec.ofNat 8 (0x61 + k)] ∧ exec i s = .next emitted) ∧
    (([.upperA, .upperB, .upperC, .upperD, .upperE, .upperF, .upperG, .upperH, .upperI, .upperJ, .upperK, .upperL,
       .upperM, .upperN, .upperO, .upperP, .upperQ, .upperR, .upperS, .upperT, .upperU, .upperV, .upperW, .upperX,
       .upperY, .upperZ] : List Instr)[k]? = some i →
      encode i = some [BitVec.ofNat 8 (0x41 + k)] ∧ exec i s = .next emitted)

/-- R120: a WHITESPACE row emits the blank pattern with the pending dot, while the whitespace set holds its byte. While it does
not, the byte is passed over: that clause is the model's reading, DEDUCED in log 17. -/
def Obligations.WhitespaceRowsEmitBlank : Prop :=
  ∀ (s : State) (i : Instr) (c : Byte), s.scan.count < s.cfg.n → 0 < s.scan.i →
    (i, c) ∈ ([(.wsHt, 0x09#8), (.wsLf, 0x0A#8), (.wsVt, 0x0B#8), (.wsFf, 0x0C#8), (.wsCr, 0x0D#8), (.wsSp, 0x20#8)] : List (Instr × Byte)) →
    encode i = some [c] ∧
      (c ∈ s.par.whitespace → exec i s = .next { s with
        scan :=
          { i := s.scan.i - 1
            dot := false
            count := s.scan.count + 1
            frame := s.scan.frame.set s.scan.count (if s.scan.dot then 0x01#8 else 0x00#8) } }) ∧
      (c ∉ s.par.whitespace → exec i s = .next { s with scan := { s.scan with i := s.scan.i - 1 } })

/-- R121 to R130: glyph byte 0x80 + k emits entry 37 + k, while the whitespace set does not take the byte. -/
def Obligations.GlyphRowsEmit : Prop :=
  ∀ (s : State) (k : Nat) (i : Instr), s.scan.count < s.cfg.n → 0 < s.scan.i →
    ([.glyphPlay, .glyphPause, .glyphStop, .segCenter, .segTop, .segTopRight, .segBottomRight, .segBottom,
       .segBottomLeft, .segTopLeft] : List Instr)[k]? = some i →
    encode i = some [BitVec.ofNat 8 (0x80 + k)] ∧
      (BitVec.ofNat 8 (0x80 + k) ∉ s.par.whitespace →
        exec i s = .next { s with
          scan :=
            { i := s.scan.i - 1
              dot := false
              count := s.scan.count + 1
              frame := s.scan.frame.set s.scan.count
                (s.table.getD (37 + k) 0x00#8 ||| (if s.scan.dot then 0x01#8 else 0x00#8)) } })

/-- R110: LOOKUP returns entry k for k in 0..46, with lookup(36) the blank, and writes nothing but the model's `ret`, where the
returned value stands (log 13); a call with any other k is refused. -/
def Obligations.LookupReturnsTheEntry : Prop :=
  ∀ (s : State) (k : Nat),
    (k ≤ 46 → exec (.lookup k) s = .next { s with
      ret := .pattern (if k = 36 then 0x00#8 else s.table.getD k 0x00#8) }) ∧
    (46 < k → exec (.lookup k) s = .refused .lookupIndex)

/-- The model's choice of log 19: TRANSMITFRAME of anything but N patterns, and RENDERFRAME of a length beyond its buffer, are
refused by name. -/
def Obligations.OperandsWithoutMeaningAreRefused : Prop :=
  ∀ (s : State) (f : List Pattern) (buf : List Byte) (len : Nat),
    (f.length ≠ s.cfg.n → exec (.transmitframe f) s = .refused .notAFrame) ∧
      (buf.length < len → exec (.renderframe buf len) s = .refused .lengthBeyondBuffer)

/-! ### The lines and the chain -/

/-- R231: SetLine sets the level of its line, leaves the three others, and appends its event, which reaches the platform's line of
that identifier; a line set to the level it holds makes no edge. Of the rest of the machine only the chain's stages may
change. -/
def Obligations.SetLineDrivesAndRecords : Prop :=
  ∀ (s : State) (l : Line) (v : Bool), ∃ (lv : Lines) (sh la : List Bool) (t : State),
    exec (.setline l v) s = .next t ∧
      t = { s with bank := { lv := lv, trace := s.bank.trace ++ [(l, v)], shift := sh, latch := la } } ∧
      lv.get l = v ∧ (∀ l', l' ≠ l → lv.get l' = s.bank.lv.get l') ∧
      t.pinTrace = s.pinTrace ++ [(s.cfg.pin l, v)] ∧
      (s.bank.lv.get l = v → sh = s.bank.shift ∧ la = s.bank.latch)

/-- R240 (D17): a rising CLOCK moves every bit of S one position on and takes DATA into S[0]; no other event changes S. -/
def Obligations.RisingClockShifts : Prop :=
  (∀ s t : State, s.bank.shift.length = s.par.chainBits → s.bank.lv.clock = false →
    exec (.setline .clock true) s = .next t →
    t.bank.shift.length = s.par.chainBits ∧
      (0 < s.par.chainBits → t.bank.shift[0]? = some s.bank.lv.data) ∧
      (∀ q, 0 < q → q < s.par.chainBits → t.bank.shift[q]? = s.bank.shift[q - 1]?)) ∧
    ∀ (s t : State) (l : Line) (v : Bool), ¬ (l = .clock ∧ v = true ∧ s.bank.lv.clock = false) →
      exec (.setline l v) s = .next t → t.bank.shift = s.bank.shift

/-- R241 (D17): a rising STROBE copies S into L; no other event changes L. -/
def Obligations.RisingStrobeLatches : Prop :=
  (∀ s t : State, s.bank.lv.strobe = false → exec (.setline .strobe true) s = .next t → t.bank.latch = s.bank.shift) ∧
    ∀ (s t : State) (l : Line) (v : Bool), ¬ (l = .strobe ∧ v = true ∧ s.bank.lv.strobe = false) →
      exec (.setline l v) s = .next t → t.bank.latch = s.bank.latch

/-- R242 (D17): every other event leaves S and L. -/
def Obligations.OtherEventsKeepTheChain : Prop :=
  ∀ (s t : State) (l : Line) (v : Bool), exec (.setline l v) s = .next t →
    (l = .clock ∧ (v = false ∨ s.bank.lv.clock = true)) ∨ l = .data ∨
      (l = .strobe ∧ (v = false ∨ s.bank.lv.strobe = true)) ∨ l = .oe →
    t.bank.shift = s.bank.shift ∧ t.bank.latch = s.bank.latch

/-- R60: a SetLine to the level the line already holds is recorded and changes nothing else. -/
def Obligations.RepeatedLevelOnlyRecords : Prop :=
  ∀ (s : State) (l : Line),
    exec (.setline l (s.bank.lv.get l)) s = .next { s with
      bank := { s.bank with trace := s.bank.trace ++ [(l, s.bank.lv.get l)] } }

/-- R190: sendBit makes CLOCK 0, DATA b, CLOCK 1 in that order. That the chain takes b in at S[0] is R240, the spec's decision D17
(log 24). Nothing else changes. -/
def Obligations.SendBitMakesOneBitCell : Prop :=
  ∀ (s : State) (v : Bool),
    exec (.sendbit v) s = .next { s with
      bank :=
        { lv := { s.bank.lv with data := v, clock := true }
          trace := s.bank.trace ++ [(.clock, false), (.data, v), (.clock, true)]
          shift := (v :: s.bank.shift).take s.par.chainBits
          latch := s.bank.latch } }

/-- R191: sendByte sends the eight bits of the pattern, bit 0 first, as eight bit cells. That the chain takes the eight bits in,
bit 7 at S[0], is R240, the spec's decision D17 (log 24). Nothing else changes. -/
def Obligations.SendByteSendsBitZeroFirst : Prop :=
  ∀ (s : State) (p : Pattern), s.bank.shift.length = s.par.chainBits →
    exec (.sendbyte p) s = .next { s with
      bank :=
        { lv := { s.bank.lv with data := p.getLsbD 7, clock := true }
          trace := s.bank.trace ++
            [p.getLsbD 0, p.getLsbD 1, p.getLsbD 2, p.getLsbD 3, p.getLsbD 4, p.getLsbD 5, p.getLsbD 6,
              p.getLsbD 7].flatMap fun v => [(.clock, false), (.data, v), (.clock, true)]
          shift :=
            ([p.getLsbD 7, p.getLsbD 6, p.getLsbD 5, p.getLsbD 4, p.getLsbD 3, p.getLsbD 2, p.getLsbD 1,
              p.getLsbD 0] ++ s.bank.shift).take s.par.chainBits
          latch := s.bank.latch } }

/-- R192: commit makes STROBE 1, STROBE 0, and STROBE ends at 0. That L takes S if STROBE was 0 is R241, the spec's decision D17
(log 24). Nothing else changes. -/
def Obligations.CommitPulsesStrobe : Prop :=
  ∀ s : State,
    exec .commit s = .next { s with
      bank :=
        { lv := { s.bank.lv with strobe := false }
          trace := s.bank.trace ++ [(.strobe, true), (.strobe, false)]
          shift := s.bank.shift
          latch := if s.bank.lv.strobe then s.bank.latch else s.bank.shift } }

/-- R193: transmitFrame of N patterns sends every bit of every slot, slot 0 first and bit 0 first, then one commit: 24×N + 2 trace
entries; only the line side changes. -/
def Obligations.TransmitFrameSendsSlotsThenCommits : Prop :=
  ∀ (s : State) (f : List Pattern), f.length = s.cfg.n → ∃ b : Bank,
    exec (.transmitframe f) s = .next { s with bank := b } ∧
      b.trace = s.bank.trace ++
        (f.flatMap fun p => (List.range 8).flatMap fun k =>
          [(Line.clock, false), (Line.data, p.getLsbD k), (Line.clock, true)]) ++
        [(Line.strobe, true), (Line.strobe, false)] ∧
      b.trace.length = s.bank.trace.length + (24 * s.cfg.n + 2)

/-- R198 (derived): the line levels at the end of a transmission. -/
def Obligations.LevelsAfterATransmission : Prop :=
  ∀ (s t : State) (f : List Pattern) (p : Pattern), f.getLast? = some p → exec (.transmitframe f) s = .next t →
    t.bank.lv.clock = true ∧ t.bank.lv.data = p.getLsbD 7 ∧ t.bank.lv.strobe = false ∧ t.bank.lv.oe = s.bank.lv.oe

/-- R199 (derived): how many events of each kind a frame transmission makes, what its DATA events carry, and that the event right before
each of its 8×N CLOCK rises is the DATA event of that bit. -/
def Obligations.EventsOfAFrameTransmission : Prop :=
  ∀ (s t : State) (f : List Pattern), exec (.transmitframe f) s = .next t → ∃ es : List Event,
    t.bank.trace = s.bank.trace ++ es ∧ es.length = 24 * s.cfg.n + 2 ∧
      es.count (.clock, false) = 8 * s.cfg.n ∧ es.count (.clock, true) = 8 * s.cfg.n ∧
      (es.filter fun e => decide (e.1 = .data)).map Prod.snd = f.flatMap (fun p => (List.range 8).map fun k => p.getLsbD k) ∧
      es.count (.strobe, true) = 1 ∧ es.count (.strobe, false) = 1 ∧
      (∀ e ∈ es, e.1 ≠ .oe) ∧
      (∀ q, es[q]? = some (.clock, true) →
        2 ≤ q ∧ es[q - 2]? = some (.clock, false) ∧
          ∃ p, f[q / 24]? = some p ∧ es[q - 1]? = some (.data, p.getLsbD (q / 3 % 8)))

/-- R244 (derived) and R246 (D17): after a frame, bit k of slot j stands at position 8×(N−1−j) + 7 − k of S, and positions from 8×N on hold what stood
8×N positions before; L is S when STROBE was low before the commit. -/
def Obligations.ChainHoldsTheFrame : Prop :=
  ∀ (s t : State) (f : List Pattern), s.bank.shift.length = s.par.chainBits → 8 * s.cfg.n ≤ s.par.chainBits →
    exec (.transmitframe f) s = .next t →
    t.bank.shift.length = s.par.chainBits ∧
      (∀ (j k : Nat) (p : Pattern), f[j]? = some p → k < 8 →
        t.bank.shift[8 * (s.cfg.n - 1 - j) + 7 - k]? = some (p.getLsbD k)) ∧
      (∀ q, 8 * s.cfg.n ≤ q → q < s.par.chainBits → t.bank.shift[q]? = s.bank.shift[q - 8 * s.cfg.n]?) ∧
      (s.bank.lv.strobe = false → t.bank.latch = t.bank.shift) ∧
      (s.bank.lv.strobe = true → t.bank.latch = s.bank.latch)

/-! ### renderFrame -/

/-- R164 (derived), R156, R157: renderFrame gives N patterns of which those from `count` on are 0x00, stops at a full window or at the
buffer's start, and touches only the working registers. -/
def Obligations.RenderFrameYieldsNPatterns : Prop :=
  ∀ (s : State) (buf : List Byte) (len : Nat), s.scan.frame.length = s.cfg.n → len ≤ buf.length → ∃ r : Scan,
    exec (.renderframe buf len) s = .next { s with scan := r } ∧ r.frame.length = s.cfg.n ∧ r.count ≤ s.cfg.n ∧
      r.i ≤ len ∧ (r.count = s.cfg.n ∨ r.i = 0) ∧
      ∀ q, r.count ≤ q → q < s.cfg.n → r.frame[q]? = some 0x00#8

/-- R159 (derived): the frame in text terms. Slot t shows the t-th supported byte from the right, with a dot when a DOT byte lies in the gap
to its right; slots with no supported byte left are 0x00. -/
def Obligations.FrameInTextTerms : Prop :=
  ∀ (s : State) (buf : List Byte) (len : Nat), s.scan.frame.length = s.cfg.n → len ≤ buf.length → ∃ r : Scan,
    exec (.renderframe buf len) s = .next { s with scan := r } ∧ r.frame.length = s.cfg.n ∧
      ∀ t, t < s.cfg.n → r.frame[t]? = some (textSlot s.table s.par.whitespace buf len t)

/-- R165 (derived): the frame depends on the first len bytes, N, the table and the whitespace set alone; two Renders of the same bytes,
length and configuration make the same frame and the same line events, and leave the same levels on DATA, CLOCK and STROBE. -/
def Obligations.RenderFrameIsPure : Prop :=
  ∀ (s s' t t' : State) (buf buf' : List Byte) (len : Nat),
    s.cfg = s'.cfg → s.table = s'.table → s.par.whitespace = s'.par.whitespace →
    s.scan.frame.length = s.cfg.n → s'.scan.frame.length = s'.cfg.n → buf.take len = buf'.take len →
    (exec (.renderframe buf len) s = .next t → exec (.renderframe buf' len) s' = .next t' → t.scan = t'.scan) ∧
      (1 ≤ s.cfg.n → s.seq = .idle → s'.seq = .idle → s.ready = true → s'.ready = true →
        len ≤ buf.length → len ≤ buf'.length →
        exec (.render buf len) s = .next t → exec (.render buf' len) s' = .next t' →
        t.scan = t'.scan ∧
          (∃ es, t.bank.trace = s.bank.trace ++ es ∧ t'.bank.trace = s'.bank.trace ++ es) ∧
          t.bank.lv.data = t'.bank.lv.data ∧ t.bank.lv.clock = t'.bank.lv.clock ∧
          t.bank.lv.strobe = t'.bank.lv.strobe)

/-- R166 (derived), R156: the bytes below the position where the scan stops have no effect on its result. -/
def Obligations.UnreadBytesHaveNoEffect : Prop :=
  ∀ (s t : State) (buf buf' : List Byte) (len : Nat),
    exec (.renderframe buf len) s = .next t → len ≤ buf'.length →
    (∀ q, t.scan.i ≤ q → q < len → buf'[q]? = buf[q]?) → exec (.renderframe buf' len) s = .next t

/-! ### The host transactions -/

/-- R150: a Render that meets its preconditions is renderFrame, then transmitFrame of its frame, then SEQ at IDLE; it leaves its
buffer and length as the request held, and changes nothing else but the model's verdict. -/
def Obligations.RenderRunsToCompletion : Prop :=
  ∀ (s : State) (buf : List Byte) (len : Nat), s.seq = .idle → s.ready = true → len ≤ buf.length →
    s.scan.frame.length = s.cfg.n → ∃ (r : Scan) (b : Bank) (m : Memory),
      exec (.renderframe buf len) s = .next { s with scan := r } ∧
        exec (.transmitframe r.frame) s = .next { s with bank := b } ∧
        (m.size = buf.length ∧ ∀ a, m.read a = buf[a]?) ∧
        exec (.render buf len) s = .next { s with
          seq := .idle, input := m, len := len, scan := r, bank := b, verdict := .accepted }

/-- R160 to R163 (D8, D9, D10): HostWrite truncates to 2×N bytes when TRUNCATE holds, then drops every trailing CR and LF of what
is kept when STRIP_CRLF holds, and then is Render of the result. That an accepted one writes `accepted` into `verdict` is the
model's own field (log 12). -/
def Obligations.HostWriteTruncatesThenStrips : Prop :=
  ∀ (s : State) (buf : List Byte), ∃ m lim : Nat,
    lim = (if s.par.truncate then min buf.length (2 * s.cfg.n) else buf.length) ∧ m ≤ lim ∧
      (s.par.stripCrlf = false → m = lim) ∧
      (s.par.stripCrlf = true →
        (∀ q, m ≤ q → q < lim → buf[q]? = some 0x0A#8 ∨ buf[q]? = some 0x0D#8) ∧
          (0 < m → buf[m - 1]? ≠ some 0x0A#8 ∧ buf[m - 1]? ≠ some 0x0D#8)) ∧
      exec (.hostwrite buf) s = exec (.render buf m) s ∧
      (s.seq = .idle → s.ready = true → ∃ t : State,
        exec (.hostwrite buf) s = .next t ∧ t.verdict = .accepted ∧ t.seq = .idle ∧ t.len = m)

/-- R194 and R306 (derived): an accepted Render or HostWrite makes 24×N + 2 line events: the 8×N bit cells of its frame, which have
no STROBE event, then one commit. -/
def Obligations.TransactionMakesOneCommit : Prop :=
  ∀ (s : State) (i : Instr), s.seq = .idle → s.ready = true → s.scan.frame.length = s.cfg.n →
    ((∃ buf len, i = .render buf len ∧ len ≤ buf.length) ∨ (∃ buf, i = .hostwrite buf)) →
    ∃ t : State, exec i s = .next t ∧ t.scan.frame.length = s.cfg.n ∧
      t.bank.trace = s.bank.trace ++
        (t.scan.frame.flatMap fun p => (List.range 8).flatMap fun k =>
          [(Line.clock, false), (Line.data, p.getLsbD k), (Line.clock, true)]) ++
        [(Line.strobe, true), (Line.strobe, false)] ∧
      t.bank.trace.length = s.bank.trace.length + (24 * s.cfg.n + 2)

/-- R291: Setup in a legal configuration, READY and not yet set up, drives OE to OE_SETUP_LEVEL and goes to IDLE; nothing else
changes but the model's verdict. -/
def Obligations.SetupDrivesOeOnce : Prop :=
  ∀ s : State, 1 ≤ s.cfg.n → [s.cfg.pinData, s.cfg.pinClock, s.cfg.pinStrobe, s.cfg.pinOe].Nodup →
    s.ready = true → s.seq = .unconfigured →
    exec .setup s = .next { s with
      seq := .idle
      bank :=
        { s.bank with
          lv := { s.bank.lv with oe := s.par.oeSetupLevel }
          trace := s.bank.trace ++ [(.oe, s.par.oeSetupLevel)] }
      verdict := .accepted }

/-- R264, R291, R271, R261: startup refuses an illegal configuration as BadConfig. From then on a Setup is refused as BadConfig
(R291) and as NotSetUp (R264), the names that R271 puts in one place; Render and HostWrite are refused as NotSetUp; and the block
never leaves UNCONFIGURED. That Setup's answer holds both names, that it holds BadConfig alone for an illegal configuration that
startup did not refuse, and the order NotReady, AlreadySetUp, are DEDUCED in log 15. A refusal leaves every state element of the
spec (log 12). -/
def Obligations.SetupRefusalsLeaveTheState : Prop :=
  (∀ (cfg : Cfg) (par : Params) (table : List Pattern),
    (cfg.n = 0 ∨ ¬ [cfg.pinData, cfg.pinClock, cfg.pinStrobe, cfg.pinOe].Nodup) →
    (State.startup cfg par table).verdict = .refused [.badConfig] ∧ (State.startup cfg par table).configRefused = true ∧
      (State.startup cfg par table).seq = .unconfigured ∧ (State.startup cfg par table).bank.trace = []) ∧
  (∀ s : State, (s.cfg.n = 0 ∨ ¬ [s.cfg.pinData, s.cfg.pinClock, s.cfg.pinStrobe, s.cfg.pinOe].Nodup) →
    s.configRefused = true → s.seq = .unconfigured →
    exec .setup s = .next { s with verdict := .refused [.badConfig, .notSetUp] } ∧
    (∀ i : Instr, ((∃ buf len, i = .render buf len) ∨ ∃ buf, i = .hostwrite buf) →
      exec i s = .next { s with verdict := .refused [.notSetUp] }) ∧
    ∀ t : State, step s = .next t → t.cfg = s.cfg ∧ t.configRefused = true ∧ t.seq = .unconfigured) ∧
  ∀ s : State,
    ((s.cfg.n = 0 ∨ ¬ [s.cfg.pinData, s.cfg.pinClock, s.cfg.pinStrobe, s.cfg.pinOe].Nodup) → s.configRefused = false →
      exec .setup s = .next { s with verdict := .refused [.badConfig] }) ∧
    (s.cfg.valid = true → s.ready = false → exec .setup s = .next { s with verdict := .refused [.notReady] }) ∧
    (s.cfg.valid = true → s.ready = true → s.seq ≠ .unconfigured →
      exec .setup s = .next { s with verdict := .refused [.alreadySetUp] })

/-- R150, R271: which reason a Render that is not accepted names, the first condition in the rule's order, and that it leaves
every state element of the spec. A HostWrite is refused for the first three (R160). -/
def Obligations.RenderRefusalsLeaveTheState : Prop :=
  ∀ (s : State) (buf : List Byte) (len : Nat) (i : Instr), i = .render buf len ∨ i = .hostwrite buf →
    (s.seq = .unconfigured → exec i s = .next { s with verdict := .refused [.notSetUp] }) ∧
    (s.seq ≠ .unconfigured → s.ready = false → exec i s = .next { s with verdict := .refused [.notReady] }) ∧
    (s.seq ≠ .unconfigured → s.ready = true → s.seq ≠ .idle → exec i s = .next { s with verdict := .refused [.busy] }) ∧
    (s.seq = .idle → s.ready = true → i = .render buf len → buf.length < len →
      exec i s = .next { s with verdict := .refused [.lengthExceedsBuffer] })

/-! ### The step -/

/-- R153 to R155 and log 11: in the byte-by-byte view of COMPUTE, a step decodes the byte at In[i − 1] and is that instruction's
exec. -/
def Obligations.StepRunsTheDecodedByte : Prop :=
  ∀ (s : State) (c : Byte) (i : Instr), s.seq = .compute → s.byteGrain = true → s.scan.count < s.cfg.n → 0 < s.scan.i →
    s.input.read (s.scan.i - 1) = some c → decode [c] = .ok (i, []) → step s = exec i s

/-- R195: the step table, with the host silent. COMPUTE is one step that is renderFrame and makes no line event; every other phase is
the one SetLine of its row. -/
def Obligations.SequencerFollowsItsTable : Prop :=
  ∀ s t : State, s.host = [] → s.scan.frame.length = s.cfg.n →
    (∀ i nx, s.issue = .ok (some (i, nx)) → s.byteGrain = false → exec i s = .next t → step s = .next { t with seq := nx }) ∧
    (s.seq = .compute → s.len ≤ s.input.size →
      s.issue = .ok (some (.renderframe s.input.bytes s.len, .shift 0 0 .clkLow))) ∧
    (∀ j k p, s.scan.frame[j]? = some p →
      (s.seq = .shift j k .clkLow → s.issue = .ok (some (.setline .clock false, .shift j k .dataSet))) ∧
      (s.seq = .shift j k .dataSet → s.issue = .ok (some (.setline .data (p.getLsbD k.val), .shift j k .clkHigh))) ∧
      (s.seq = .shift j k .clkHigh → k.val < 7 → ∃ k' : Fin 8, k'.val = k.val + 1 ∧
        s.issue = .ok (some (.setline .clock true, .shift j k' .clkLow))) ∧
      (s.seq = .shift j k .clkHigh → k.val = 7 → j + 1 < s.cfg.n →
        s.issue = .ok (some (.setline .clock true, .shift (j + 1) 0 .clkLow))) ∧
      (s.seq = .shift j k .clkHigh → k.val = 7 → j + 1 = s.cfg.n →
        s.issue = .ok (some (.setline .clock true, .strobeHigh)))) ∧
    (s.seq = .strobeHigh → s.issue = .ok (some (.setline .strobe true, .strobeLow))) ∧
    (s.seq = .strobeLow → s.issue = .ok (some (.setline .strobe false, .idle)))

/-- R195, R193, and R196 (derived): from COMPUTE, exactly 1 + 24×N + 2 steps lead to IDLE, the block is BUSY before every one of them, and the
result is renderFrame and then transmitFrame of its frame. -/
def Obligations.SequencerRunsTheTransmission : Prop :=
  ∀ s : State, s.seq = .compute → s.byteGrain = false → s.host = [] → 1 ≤ s.cfg.n → s.len ≤ s.input.size →
    s.scan.frame.length = s.cfg.n →
    (∃ (r : Scan) (b : Bank),
      exec (.renderframe s.input.bytes s.len) s = .next { s with scan := r } ∧
        exec (.transmitframe r.frame) s = .next { s with bank := b } ∧
        runSteps (24 * s.cfg.n + 3) s = .next { s with seq := .idle, scan := r, bank := b }) ∧
    ∀ q, q < 24 * s.cfg.n + 3 → ∃ t, runSteps q s = .next t ∧ t.busy = true

/-- R150, R160, R291, R12, R195, with the port as log 10 and the two levels as log 25 give them: a Render or HostWrite presented
on the port, accepted and run by the sequencer ends in the state that its exec gives, HostWrite's truncation and stripping among
it. A presented Setup, and a transaction that is refused while none is in flight, takes one step that is its exec. One presented
in flight outside COMPUTE is answered as its exec answers, and the block's own step follows in the same step. -/
def Obligations.PresentedRenderEqualsExec : Prop :=
  ∀ (s : State) (x : Txn), s.host = [.present x] →
    (s.seq = .idle → s.ready = true → s.byteGrain = false → 1 ≤ s.cfg.n → s.scan.frame.length = s.cfg.n →
      ((∃ buf len, x = .render buf len ∧ len ≤ buf.length) ∨ (∃ buf, x = .hostwrite buf)) →
      runSteps (24 * s.cfg.n + 4) s = exec x.instr { s with host := [] }) ∧
    (s.busy = false →
      (x = .setup ∨ s.seq = .unconfigured ∨ s.ready = false ∨ (∃ buf len, x = .render buf len ∧ buf.length < len)) →
      step s = exec x.instr { s with host := [] }) ∧
    (s.busy = true → s.seq ≠ .compute → ∃ rs : List Reason,
      exec x.instr { s with host := [] } = .next { s with host := [], verdict := .refused rs } ∧
        step s = step { s with host := [], verdict := .refused rs })

/-- R196 (derived), with the host's inputs as log 10 gives them: from COMPUTE, whatever the host side does while the transaction is in flight (other transactions, READY, stores into
the buffer), every step is enabled, the block is in flight for exactly 1 + 24×N + 2 steps and then at IDLE, and the phases, the
frame, the line events and the chain are the same. -/
def Obligations.HostCannotDisturbATransmission : Prop :=
  ∀ (s : State) (hs hs' : List HostInput) (q : Nat), s.Inv → s.seq = .compute → s.byteGrain = false →
    q ≤ 24 * s.cfg.n + 3 → ∃ t t' : State,
      runSteps q { s with host := hs } = .next t ∧ runSteps q { s with host := hs' } = .next t' ∧
        (q < 24 * s.cfg.n + 3 → t.busy = true) ∧ (q = 24 * s.cfg.n + 3 → t.seq = .idle) ∧
        t.seq = t'.seq ∧ t.scan = t'.scan ∧ t.bank = t'.bank

/-- Log 11, R151: COMPUTE run byte by byte ends with the registers that renderFrame gives, in at most len + 1 steps. -/
def Obligations.ByteByByteComputeAgrees : Prop :=
  ∀ s : State, s.seq = .compute → s.byteGrain = true → s.len ≤ s.input.size → s.scan.i = s.len → s.scan.dot = false →
    s.scan.count = 0 → ∃ (q : Nat) (r : Scan), q ≤ s.len + 1 ∧
      exec (.renderframe s.input.bytes s.len) s = .next { s with scan := r } ∧
        runSteps q s = .next { s with seq := .shift 0 0 .clkLow, scan := r }

/-- R245 (derived): L keeps its value through COMPUTE and all shifts of a transmission, and is the new frame from the rising STROBE on. -/
def Obligations.LatchChangesOnceAtTheCommit : Prop :=
  ∀ (s t : State) (q : Nat), s.Inv → s.seq = .compute → s.byteGrain = false → s.bank.lv.strobe = false →
    s.par.chainBits = 8 * s.cfg.n → runSteps q s = .next t →
    (q ≤ 24 * s.cfg.n + 1 → t.bank.latch = s.bank.latch) ∧
      (24 * s.cfg.n + 2 ≤ q → q ≤ 24 * s.cfg.n + 3 → t.bank.latch = (stream t.scan.frame).reverse)

/-- R34, R232, R195: a step appends to TRACE and makes at most one line event; a step of a block in flight outside COMPUTE makes
exactly one. -/
def Obligations.StepMakesAtMostOneEvent : Prop :=
  ∀ s t : State, step s = .next t → ∃ es : List Event, t.bank.trace = s.bank.trace ++ es ∧ es.length ≤ 1 ∧
    (s.seq = .compute → es = []) ∧ (s.busy = true → s.seq ≠ .compute → es.length = 1)

/-- R22, R52, R264, R302: no instruction and no step writes the configuration, whether it was refused, the parameters or the
PatternTable. -/
def Obligations.ConfigurationNeverChanges : Prop :=
  (∀ (i : Instr) (s t : State), exec i s = .next t →
    t.cfg = s.cfg ∧ t.configRefused = s.configRefused ∧ t.par = s.par ∧ t.table = s.table) ∧
    ∀ s t : State, step s = .next t →
      t.cfg = s.cfg ∧ t.configRefused = s.configRefused ∧ t.par = s.par ∧ t.table = s.table

/-- R50, R67: an accepted buffer reads as the bytes handed over; a host store outside COMPUTE changes that one byte of the buffer and
no other byte (the rule that a store outside the buffer changes nothing is the model's, log 10). -/
def Obligations.BufferReadsBack : Prop :=
  (∀ (buf : List Byte) (a : Nat), (Memory.load buf).read a = buf[a]?) ∧
    ∀ (s t : State) (a : Nat) (b : Byte) (rest : List HostInput), s.input.wf = true → s.seq ≠ .compute →
      s.host = .store a b :: rest → step s = .next t →
      ∀ x, t.input.read x = if x = a ∧ a < s.input.size then some b else s.input.read x

/-! ### Reset and invariants -/

/-- R290 and R38 (D18, D24): CFG, SEQ and TRACE at reset. The rest rests on more: STROBE at 0 on D15 and CHAIN_BITS = 40 on R8 and
D17, both DEDUCED in log 24; entry 36 on R111 and D2; BUSY on R27 (derived). -/
def Obligations.ResetAsTheSpecGives : Prop :=
  State.reset.cfg = { n := 5, pinData := 9, pinClock := 8, pinStrobe := 6, pinOe := 4 } ∧
    State.reset.seq = .unconfigured ∧ State.reset.bank.trace = [] ∧
    State.reset.bank.lv.strobe = false ∧ State.reset.bank.lv.strobe = State.reset.par.strobeInit ∧
    State.reset.table[36]? = some 0x00#8 ∧ State.reset.par.chainBits = 40 ∧ State.reset.busy = false

/-- R38, and R296 (derived), with the host's inputs as log 10 gives them: from reset, once READY is 1, the presented Setup leaves SEQ at IDLE and OE driven, with its one event in TRACE. -/
def Obligations.StateAfterSetup : Prop :=
  ∃ t : State, runSteps 2 { State.reset with host := [.ready true, .present .setup] } = .next t ∧
    t.seq = .idle ∧ t.ready = true ∧ t.bank.lv.oe = t.par.oeSetupLevel ∧ t.bank.lv.strobe = t.par.strobeInit ∧
    t.bank.trace = [(.oe, t.par.oeSetupLevel)] ∧ t.verdict = .accepted

/-- The invariants hold at reset. It rests on the model's choices of log 1 (the working registers), log 3 (the sizes of S and L)
and log 8 (the empty buffer, length 0), all DESIGN CHOICE, and on STROBE_INIT = 0 (R293, D15), DEDUCED in log 24; the rest is R38. -/
def Obligations.ResetMeetsTheInvariants : Prop :=
  State.reset.Inv ∧ State.reset.StrobeQuiet ∧ State.reset.OeDrivenOnce ∧ State.reset.LevelsFollowTrace

/-- R23, R26, R28, R30, R31, R35, R36, R51, R264: every step keeps the machine's invariant. -/
def Obligations.StepKeepsTheInvariant : Prop :=
  ∀ s t : State, s.Inv → step s = .next t → t.Inv

/-- R196 (derived), R260: from a state that meets the invariant every step has a next state: no fault, no refusal. -/
def Obligations.InvariantStatesStepOn : Prop :=
  ∀ s : State, s.Inv → s.StepsOn

/-- R31, R30, R35, R36, R51: every instruction keeps the sizes of the registers and the canonical form of the buffer. -/
def Obligations.InstructionsKeepTheShape : Prop :=
  ∀ (i : Instr) (s t : State), s.Shape → exec i s = .next t → t.Shape

/-- R192, R293: outside the commit pulse STROBE is low, and every step keeps it so. -/
def Obligations.StrobeStaysQuiet : Prop :=
  ∀ s t : State, s.StrobeQuiet → step s = .next t → t.StrobeQuiet

/-- R233, R291: OE is driven once, by Setup, and every step keeps it so. -/
def Obligations.OeStaysDrivenOnce : Prop :=
  ∀ s t : State, s.OeDrivenOnce → step s = .next t → t.OeDrivenOnce

/-- R33: after every instruction and every step each line holds the value of the last SetLine to it. -/
def Obligations.LevelsKeepFollowingTheTrace : Prop :=
  (∀ (i : Instr) (s t : State), s.LevelsFollowTrace → exec i s = .next t → t.LevelsFollowTrace) ∧
    ∀ s t : State, s.LevelsFollowTrace → step s = .next t → t.LevelsFollowTrace

/-- R243 (D16): the chain's outputs show L exactly while OE is at OE_ACTIVE_LEVEL; otherwise no light of any digit is lit. -/
def Obligations.OutputsGatedByOe : Prop :=
  ∀ s : State,
    (s.bank.lv.oe = s.par.oeActiveLevel → s.outputs = some s.bank.latch) ∧
      (s.bank.lv.oe ≠ s.par.oeActiveLevel → s.outputs = none ∧ ∀ d x, s.lit d x = false)
end

