-- ==== Sys2Proof/Laws/State.lean ====
section
/-! SUPPORT. One lemma per field per update of the state: what each named update sets and what it leaves. -/

namespace Sys2Proof.Machine

variable (s : State)

@[simp] theorem State.withSeq_cfg (x : Seq) : (s.withSeq x).cfg = s.cfg := rfl
@[simp] theorem State.withSeq_par (x : Seq) : (s.withSeq x).par = s.par := rfl
@[simp] theorem State.withSeq_table (x : Seq) : (s.withSeq x).table = s.table := rfl
@[simp] theorem State.withSeq_configRefused (x : Seq) : (s.withSeq x).configRefused = s.configRefused := rfl
@[simp] theorem State.withSeq_ready (x : Seq) : (s.withSeq x).ready = s.ready := rfl
@[simp] theorem State.withSeq_seq (x : Seq) : (s.withSeq x).seq = x := rfl
@[simp] theorem State.withSeq_input (x : Seq) : (s.withSeq x).input = s.input := rfl
@[simp] theorem State.withSeq_len (x : Seq) : (s.withSeq x).len = s.len := rfl
@[simp] theorem State.withSeq_scan (x : Seq) : (s.withSeq x).scan = s.scan := rfl
@[simp] theorem State.withSeq_bank (x : Seq) : (s.withSeq x).bank = s.bank := rfl
@[simp] theorem State.withSeq_host (x : Seq) : (s.withSeq x).host = s.host := rfl
@[simp] theorem State.withSeq_byteGrain (x : Seq) : (s.withSeq x).byteGrain = s.byteGrain := rfl
@[simp] theorem State.withSeq_verdict (x : Seq) : (s.withSeq x).verdict = s.verdict := rfl
@[simp] theorem State.withSeq_ret (x : Seq) : (s.withSeq x).ret = s.ret := rfl

@[simp] theorem State.withScan_cfg (x : Scan) : (s.withScan x).cfg = s.cfg := rfl
@[simp] theorem State.withScan_par (x : Scan) : (s.withScan x).par = s.par := rfl
@[simp] theorem State.withScan_table (x : Scan) : (s.withScan x).table = s.table := rfl
@[simp] theorem State.withScan_configRefused (x : Scan) : (s.withScan x).configRefused = s.configRefused := rfl
@[simp] theorem State.withScan_ready (x : Scan) : (s.withScan x).ready = s.ready := rfl
@[simp] theorem State.withScan_seq (x : Scan) : (s.withScan x).seq = s.seq := rfl
@[simp] theorem State.withScan_input (x : Scan) : (s.withScan x).input = s.input := rfl
@[simp] theorem State.withScan_len (x : Scan) : (s.withScan x).len = s.len := rfl
@[simp] theorem State.withScan_scan (x : Scan) : (s.withScan x).scan = x := rfl
@[simp] theorem State.withScan_bank (x : Scan) : (s.withScan x).bank = s.bank := rfl
@[simp] theorem State.withScan_host (x : Scan) : (s.withScan x).host = s.host := rfl
@[simp] theorem State.withScan_byteGrain (x : Scan) : (s.withScan x).byteGrain = s.byteGrain := rfl
@[simp] theorem State.withScan_verdict (x : Scan) : (s.withScan x).verdict = s.verdict := rfl
@[simp] theorem State.withScan_ret (x : Scan) : (s.withScan x).ret = s.ret := rfl

@[simp] theorem State.withBank_cfg (x : Bank) : (s.withBank x).cfg = s.cfg := rfl
@[simp] theorem State.withBank_par (x : Bank) : (s.withBank x).par = s.par := rfl
@[simp] theorem State.withBank_table (x : Bank) : (s.withBank x).table = s.table := rfl
@[simp] theorem State.withBank_configRefused (x : Bank) : (s.withBank x).configRefused = s.configRefused := rfl
@[simp] theorem State.withBank_ready (x : Bank) : (s.withBank x).ready = s.ready := rfl
@[simp] theorem State.withBank_seq (x : Bank) : (s.withBank x).seq = s.seq := rfl
@[simp] theorem State.withBank_input (x : Bank) : (s.withBank x).input = s.input := rfl
@[simp] theorem State.withBank_len (x : Bank) : (s.withBank x).len = s.len := rfl
@[simp] theorem State.withBank_scan (x : Bank) : (s.withBank x).scan = s.scan := rfl
@[simp] theorem State.withBank_bank (x : Bank) : (s.withBank x).bank = x := rfl
@[simp] theorem State.withBank_host (x : Bank) : (s.withBank x).host = s.host := rfl
@[simp] theorem State.withBank_byteGrain (x : Bank) : (s.withBank x).byteGrain = s.byteGrain := rfl
@[simp] theorem State.withBank_verdict (x : Bank) : (s.withBank x).verdict = s.verdict := rfl
@[simp] theorem State.withBank_ret (x : Bank) : (s.withBank x).ret = s.ret := rfl

@[simp] theorem State.withReady_cfg (x : Bool) : (s.withReady x).cfg = s.cfg := rfl
@[simp] theorem State.withReady_par (x : Bool) : (s.withReady x).par = s.par := rfl
@[simp] theorem State.withReady_table (x : Bool) : (s.withReady x).table = s.table := rfl
@[simp] theorem State.withReady_configRefused (x : Bool) : (s.withReady x).configRefused = s.configRefused := rfl
@[simp] theorem State.withReady_ready (x : Bool) : (s.withReady x).ready = x := rfl
@[simp] theorem State.withReady_seq (x : Bool) : (s.withReady x).seq = s.seq := rfl
@[simp] theorem State.withReady_input (x : Bool) : (s.withReady x).input = s.input := rfl
@[simp] theorem State.withReady_len (x : Bool) : (s.withReady x).len = s.len := rfl
@[simp] theorem State.withReady_scan (x : Bool) : (s.withReady x).scan = s.scan := rfl
@[simp] theorem State.withReady_bank (x : Bool) : (s.withReady x).bank = s.bank := rfl
@[simp] theorem State.withReady_host (x : Bool) : (s.withReady x).host = s.host := rfl
@[simp] theorem State.withReady_byteGrain (x : Bool) : (s.withReady x).byteGrain = s.byteGrain := rfl
@[simp] theorem State.withReady_verdict (x : Bool) : (s.withReady x).verdict = s.verdict := rfl
@[simp] theorem State.withReady_ret (x : Bool) : (s.withReady x).ret = s.ret := rfl

@[simp] theorem State.withInput_cfg (x : Memory) : (s.withInput x).cfg = s.cfg := rfl
@[simp] theorem State.withInput_par (x : Memory) : (s.withInput x).par = s.par := rfl
@[simp] theorem State.withInput_table (x : Memory) : (s.withInput x).table = s.table := rfl
@[simp] theorem State.withInput_configRefused (x : Memory) : (s.withInput x).configRefused = s.configRefused := rfl
@[simp] theorem State.withInput_ready (x : Memory) : (s.withInput x).ready = s.ready := rfl
@[simp] theorem State.withInput_seq (x : Memory) : (s.withInput x).seq = s.seq := rfl
@[simp] theorem State.withInput_input (x : Memory) : (s.withInput x).input = x := rfl
@[simp] theorem State.withInput_len (x : Memory) : (s.withInput x).len = s.len := rfl
@[simp] theorem State.withInput_scan (x : Memory) : (s.withInput x).scan = s.scan := rfl
@[simp] theorem State.withInput_bank (x : Memory) : (s.withInput x).bank = s.bank := rfl
@[simp] theorem State.withInput_host (x : Memory) : (s.withInput x).host = s.host := rfl
@[simp] theorem State.withInput_byteGrain (x : Memory) : (s.withInput x).byteGrain = s.byteGrain := rfl
@[simp] theorem State.withInput_verdict (x : Memory) : (s.withInput x).verdict = s.verdict := rfl
@[simp] theorem State.withInput_ret (x : Memory) : (s.withInput x).ret = s.ret := rfl

@[simp] theorem State.withRequest_cfg (x : Memory) (n : Nat) : (s.withRequest x n).cfg = s.cfg := rfl
@[simp] theorem State.withRequest_par (x : Memory) (n : Nat) : (s.withRequest x n).par = s.par := rfl
@[simp] theorem State.withRequest_table (x : Memory) (n : Nat) : (s.withRequest x n).table = s.table := rfl
@[simp] theorem State.withRequest_configRefused (x : Memory) (n : Nat) : (s.withRequest x n).configRefused = s.configRefused := rfl
@[simp] theorem State.withRequest_ready (x : Memory) (n : Nat) : (s.withRequest x n).ready = s.ready := rfl
@[simp] theorem State.withRequest_seq (x : Memory) (n : Nat) : (s.withRequest x n).seq = s.seq := rfl
@[simp] theorem State.withRequest_input (x : Memory) (n : Nat) : (s.withRequest x n).input = x := rfl
@[simp] theorem State.withRequest_len (x : Memory) (n : Nat) : (s.withRequest x n).len = n := rfl
@[simp] theorem State.withRequest_scan (x : Memory) (n : Nat) : (s.withRequest x n).scan = s.scan := rfl
@[simp] theorem State.withRequest_bank (x : Memory) (n : Nat) : (s.withRequest x n).bank = s.bank := rfl
@[simp] theorem State.withRequest_host (x : Memory) (n : Nat) : (s.withRequest x n).host = s.host := rfl
@[simp] theorem State.withRequest_byteGrain (x : Memory) (n : Nat) : (s.withRequest x n).byteGrain = s.byteGrain := rfl
@[simp] theorem State.withRequest_verdict (x : Memory) (n : Nat) : (s.withRequest x n).verdict = s.verdict := rfl
@[simp] theorem State.withRequest_ret (x : Memory) (n : Nat) : (s.withRequest x n).ret = s.ret := rfl

@[simp] theorem State.withHost_cfg (x : List HostInput) : (s.withHost x).cfg = s.cfg := rfl
@[simp] theorem State.withHost_par (x : List HostInput) : (s.withHost x).par = s.par := rfl
@[simp] theorem State.withHost_table (x : List HostInput) : (s.withHost x).table = s.table := rfl
@[simp] theorem State.withHost_configRefused (x : List HostInput) : (s.withHost x).configRefused = s.configRefused := rfl
@[simp] theorem State.withHost_ready (x : List HostInput) : (s.withHost x).ready = s.ready := rfl
@[simp] theorem State.withHost_seq (x : List HostInput) : (s.withHost x).seq = s.seq := rfl
@[simp] theorem State.withHost_input (x : List HostInput) : (s.withHost x).input = s.input := rfl
@[simp] theorem State.withHost_len (x : List HostInput) : (s.withHost x).len = s.len := rfl
@[simp] theorem State.withHost_scan (x : List HostInput) : (s.withHost x).scan = s.scan := rfl
@[simp] theorem State.withHost_bank (x : List HostInput) : (s.withHost x).bank = s.bank := rfl
@[simp] theorem State.withHost_host (x : List HostInput) : (s.withHost x).host = x := rfl
@[simp] theorem State.withHost_byteGrain (x : List HostInput) : (s.withHost x).byteGrain = s.byteGrain := rfl
@[simp] theorem State.withHost_verdict (x : List HostInput) : (s.withHost x).verdict = s.verdict := rfl
@[simp] theorem State.withHost_ret (x : List HostInput) : (s.withHost x).ret = s.ret := rfl

@[simp] theorem State.withVerdict_cfg (x : Verdict) : (s.withVerdict x).cfg = s.cfg := rfl
@[simp] theorem State.withVerdict_par (x : Verdict) : (s.withVerdict x).par = s.par := rfl
@[simp] theorem State.withVerdict_table (x : Verdict) : (s.withVerdict x).table = s.table := rfl
@[simp] theorem State.withVerdict_configRefused (x : Verdict) : (s.withVerdict x).configRefused = s.configRefused := rfl
@[simp] theorem State.withVerdict_ready (x : Verdict) : (s.withVerdict x).ready = s.ready := rfl
@[simp] theorem State.withVerdict_seq (x : Verdict) : (s.withVerdict x).seq = s.seq := rfl
@[simp] theorem State.withVerdict_input (x : Verdict) : (s.withVerdict x).input = s.input := rfl
@[simp] theorem State.withVerdict_len (x : Verdict) : (s.withVerdict x).len = s.len := rfl
@[simp] theorem State.withVerdict_scan (x : Verdict) : (s.withVerdict x).scan = s.scan := rfl
@[simp] theorem State.withVerdict_bank (x : Verdict) : (s.withVerdict x).bank = s.bank := rfl
@[simp] theorem State.withVerdict_host (x : Verdict) : (s.withVerdict x).host = s.host := rfl
@[simp] theorem State.withVerdict_byteGrain (x : Verdict) : (s.withVerdict x).byteGrain = s.byteGrain := rfl
@[simp] theorem State.withVerdict_verdict (x : Verdict) : (s.withVerdict x).verdict = x := rfl
@[simp] theorem State.withVerdict_ret (x : Verdict) : (s.withVerdict x).ret = s.ret := rfl

@[simp] theorem State.withRet_cfg (x : Ret) : (s.withRet x).cfg = s.cfg := rfl
@[simp] theorem State.withRet_par (x : Ret) : (s.withRet x).par = s.par := rfl
@[simp] theorem State.withRet_table (x : Ret) : (s.withRet x).table = s.table := rfl
@[simp] theorem State.withRet_configRefused (x : Ret) : (s.withRet x).configRefused = s.configRefused := rfl
@[simp] theorem State.withRet_ready (x : Ret) : (s.withRet x).ready = s.ready := rfl
@[simp] theorem State.withRet_seq (x : Ret) : (s.withRet x).seq = s.seq := rfl
@[simp] theorem State.withRet_input (x : Ret) : (s.withRet x).input = s.input := rfl
@[simp] theorem State.withRet_len (x : Ret) : (s.withRet x).len = s.len := rfl
@[simp] theorem State.withRet_scan (x : Ret) : (s.withRet x).scan = s.scan := rfl
@[simp] theorem State.withRet_bank (x : Ret) : (s.withRet x).bank = s.bank := rfl
@[simp] theorem State.withRet_host (x : Ret) : (s.withRet x).host = s.host := rfl
@[simp] theorem State.withRet_byteGrain (x : Ret) : (s.withRet x).byteGrain = s.byteGrain := rfl
@[simp] theorem State.withRet_verdict (x : Ret) : (s.withRet x).verdict = s.verdict := rfl
@[simp] theorem State.withRet_ret (x : Ret) : (s.withRet x).ret = x := rfl

@[simp] theorem State.refuse_cfg (r : List Reason) : (s.refuse r).cfg = s.cfg := rfl
@[simp] theorem State.refuse_par (r : List Reason) : (s.refuse r).par = s.par := rfl
@[simp] theorem State.refuse_table (r : List Reason) : (s.refuse r).table = s.table := rfl
@[simp] theorem State.refuse_configRefused (r : List Reason) : (s.refuse r).configRefused = s.configRefused := rfl
@[simp] theorem State.refuse_ready (r : List Reason) : (s.refuse r).ready = s.ready := rfl
@[simp] theorem State.refuse_seq (r : List Reason) : (s.refuse r).seq = s.seq := rfl
@[simp] theorem State.refuse_input (r : List Reason) : (s.refuse r).input = s.input := rfl
@[simp] theorem State.refuse_len (r : List Reason) : (s.refuse r).len = s.len := rfl
@[simp] theorem State.refuse_scan (r : List Reason) : (s.refuse r).scan = s.scan := rfl
@[simp] theorem State.refuse_bank (r : List Reason) : (s.refuse r).bank = s.bank := rfl
@[simp] theorem State.refuse_host (r : List Reason) : (s.refuse r).host = s.host := rfl
@[simp] theorem State.refuse_byteGrain (r : List Reason) : (s.refuse r).byteGrain = s.byteGrain := rfl
@[simp] theorem State.refuse_verdict (r : List Reason) : (s.refuse r).verdict = .refused r := rfl
@[simp] theorem State.refuse_ret (r : List Reason) : (s.refuse r).ret = s.ret := rfl

end Sys2Proof.Machine
end

