-- ==== Sys2Proof/Laws/Renderer.lean ====
section
/-! SUPPORT. What a step of the scan, the scan and renderFrame do to the working registers. -/

namespace Sys2Proof.Machine

@[simp] theorem dotAfter_dot (d : Bool) : dotAfter .dot d = true := rfl
@[simp] theorem dotAfter_unsupported (d : Bool) : dotAfter .unsupported d = d := rfl
@[simp] theorem dotAfter_idx (k : Nat) (d : Bool) : dotAfter (.idx k) d = false := rfl
@[simp] theorem dotMask_true : dotMask true = 0x01#8 := rfl
@[simp] theorem dotMask_false : dotMask false = 0x00#8 := rfl

@[simp] theorem lookup_blank (table : List Pattern) : lookup table 36 = 0x00#8 := rfl

@[simp] theorem Scan.start_i (len : Nat) (r : Scan) : (r.start len).i = len := rfl
@[simp] theorem Scan.start_dot (len : Nat) (r : Scan) : (r.start len).dot = false := rfl
@[simp] theorem Scan.start_count (len : Nat) (r : Scan) : (r.start len).count = 0 := rfl
@[simp] theorem Scan.start_frame (len : Nat) (r : Scan) : (r.start len).frame = r.frame := rfl
@[simp] theorem Scan.pad_i (n : Nat) (r : Scan) : (r.pad n).i = r.i := rfl
@[simp] theorem Scan.pad_dot (n : Nat) (r : Scan) : (r.pad n).dot = r.dot := rfl
@[simp] theorem Scan.pad_count (n : Nat) (r : Scan) : (r.pad n).count = r.count := rfl

section Step
variable (table : List Pattern) (c : ByteClass) (r : Scan)

@[simp] theorem Scan.step_i : (r.step table c).i = r.i - 1 := by cases c <;> rfl
@[simp] theorem Scan.step_dot : (r.step table c).dot = dotAfter c r.dot := by cases c <;> rfl
@[simp] theorem Scan.step_frame_length : (r.step table c).frame.length = r.frame.length := by
  cases c <;> simp [Scan.step]

theorem Scan.step_count : (r.step table c).count = match c with | .idx _ => r.count + 1 | _ => r.count := by
  cases c <;> rfl

theorem Scan.step_count_le {n : Nat} (h : r.count < n) : (r.step table c).count ≤ n := by
  cases c <;> simp [Scan.step_count] <;> omega

end Step

section Loop
variable {n : Nat} {table : List Pattern} {ws buf : List Byte}

@[simp] theorem scanLoop_frame_length : ∀ (i : Nat) (r : Scan),
    (scanLoop n table ws buf i r).frame.length = r.frame.length
  | 0, _ => rfl
  | i + 1, r => by
    unfold scanLoop
    split
    · rw [scanLoop_frame_length i]; simp
    · rfl

theorem scanLoop_count_le : ∀ (i : Nat) (r : Scan), r.count ≤ n → (scanLoop n table ws buf i r).count ≤ n
  | 0, _, h => h
  | i + 1, r, h => by
    unfold scanLoop
    split
    · exact scanLoop_count_le i _ (Scan.step_count_le table _ r (by assumption))
    · exact h

theorem scanLoop_i_le : ∀ (i : Nat) (r : Scan), (scanLoop n table ws buf i r).i ≤ r.i
  | 0, _ => Nat.le_refl _
  | i + 1, r => by
    unfold scanLoop
    split
    · exact (scanLoop_i_le i _).trans (by simp)
    · exact Nat.le_refl _

/-- Once N patterns are emitted, no byte is read (R156). -/
theorem scanLoop_full {i : Nat} {r : Scan} (h : n ≤ r.count) : scanLoop n table ws buf i r = r := by
  cases i with
  | zero => rfl
  | succ i => simp [scanLoop, Nat.not_lt.mpr h]

end Loop

theorem Scan.pad_frame_length {n : Nat} {r : Scan} (hc : r.count ≤ n) (hf : r.frame.length = n) :
    (r.pad n).frame.length = n := by
  simp [Scan.pad, hf]; omega

/-- renderFrame returns N patterns (R164). -/
theorem renderScan_frame_length {n : Nat} {table : List Pattern} {ws buf : List Byte} {len : Nat} {r : Scan}
    (hf : r.frame.length = n) : (renderScan n table ws buf len r).frame.length = n :=
  Scan.pad_frame_length (scanLoop_count_le _ _ (Nat.zero_le _)) (by simp [hf])

theorem renderScan_count_le {n : Nat} {table : List Pattern} {ws buf : List Byte} {len : Nat} {r : Scan} :
    (renderScan n table ws buf len r).count ≤ n :=
  scanLoop_count_le _ _ (Nat.zero_le _)

theorem renderScan_i_le {n : Nat} {table : List Pattern} {ws buf : List Byte} {len : Nat} {r : Scan} :
    (renderScan n table ws buf len r).i ≤ len :=
  scanLoop_i_le len _

/-- A scan step touches the working registers only. -/
theorem State.scanStep_eq (c : ByteClass) (s : State) :
    s.scanStep c = s.withScan (if s.scan.goesOn s.cfg.n then s.scan.step s.table c else s.scan) := by
  unfold State.scanStep; split <;> rfl

end Sys2Proof.Machine
end

