-- ==== Sys2Proof/Laws/Bytes.lean ====
section
/-! SUPPORT. The byte codes seen through the decoder: each byte's meaning is the scan step of its class. -/

namespace Sys2Proof.Machine

/-- A property of all bytes, from its 256 values. -/
theorem forall_byte {P : Byte → Prop} (h : ∀ n, n < 256 → P (BitVec.ofNat 8 n)) (c : Byte) : P c := by
  simpa using h c.toNat c.isLt

/-- The meaning of the decoded byte is one step of the scan over the byte's class (R114, R153 to R155). -/
theorem exec_decodeByte (s : State) :
    ∀ c : Byte, exec (decodeByte c) s = .next (s.scanStep (classify s.par.whitespace c)) := by
  refine forall_byte fun n hn => ?_
  interval_cases n <;> rfl

end Sys2Proof.Machine
end

