-- ==== Sys2Proof/Laws/Display.lean ====
section
/-! SUPPORT. SEG_WIRING as a bijection between pattern bits and lights (R86, D3). -/

namespace Sys2Proof.Machine

/-- Every segment stands in every wiring. -/
theorem mem_segWiring (w : Config.SegWiring) (x : Config.Segment) : x ∈ w.order := by
  by_contra h
  have hn : (x :: w.order).Nodup := List.nodup_cons.mpr ⟨h, w.distinct⟩
  have hs : (x :: w.order) ⊆ (List.finRange 7).map Config.segmentAt := fun y _ => by cases y <;> decide
  have := (hn.subperm hs).length_le
  simp [w.seven] at this

/-- Each segment is driven by exactly one of the bits 1..7. -/
theorem Params.light_segment (p : Params) (x : Config.Segment) :
    ∃! bit, 1 ≤ bit ∧ bit ≤ 7 ∧ p.light bit = some (.segment x) := by
  obtain ⟨k, hk, hx⟩ := List.getElem_of_mem (mem_segWiring p.segWiring x)
  refine ⟨k + 1, ⟨by omega, by have := p.segWiring.seven; omega, by simp [Params.light, hk, hx]⟩, fun b ⟨h1, _, h⟩ => ?_⟩
  obtain ⟨j, rfl⟩ : ∃ j, b = j + 1 := ⟨b - 1, by omega⟩
  obtain ⟨hj, e⟩ : ∃ hj : j < p.segWiring.order.length, p.segWiring.order[j] = x := by
    simpa [Params.light, List.getElem?_eq_some_iff] using h
  rw [(p.segWiring.distinct.getElem_inj_iff (hi := hj) (hj := hk)).mp (e.trans hx.symm)]

/-- Each of the bits 1..7 drives a segment, and bit 0 drives the decimal point. -/
theorem Params.light_bit (p : Params) (bit : Nat) (h : bit ≤ 7) :
    (bit = 0 ∧ p.light bit = some .decimalPoint) ∨ ∃ x, 1 ≤ bit ∧ p.light bit = some (.segment x) := by
  cases bit with
  | zero => exact .inl ⟨rfl, rfl⟩
  | succ k =>
    have hk : k < p.segWiring.order.length := by rw [p.segWiring.seven]; omega
    exact .inr ⟨p.segWiring.order[k], by omega, by simp [Params.light, hk]⟩

/-- The free permutation reaches every wiring: nothing but the bijection of D3 is assumed. -/
theorem segWiring_eq_ofPerm (w : Config.SegWiring) : ∃ e : Equiv.Perm (Fin 7), w = .ofPerm e := by
  have hk : ∀ x, ∃ k, Config.segmentAt k = x := fun x => by cases x <;> decide
  choose number hnum using hk
  have hl := w.seven
  let f : Fin 7 → Fin 7 := fun k => number (w.order[k.val]'(by omega))
  have hf : Function.Injective f := fun a b h => by
    have h' := congrArg Config.segmentAt h
    simp only [f, hnum] at h'
    exact Fin.ext (w.distinct.getElem_inj_iff.mp h')
  refine ⟨Equiv.ofBijective f (Finite.injective_iff_bijective.mp hf), ?_⟩
  have : w.order = (Config.SegWiring.ofPerm (Equiv.ofBijective f (Finite.injective_iff_bijective.mp hf))).order := by
    apply List.ext_getElem
    · simp [Config.SegWiring.ofPerm, hl]
    · intro k h1 h2
      simp [Config.SegWiring.ofPerm, f, hnum]
  cases w
  simp_all [Config.SegWiring.ofPerm]

end Sys2Proof.Machine
end

