-- ==== Sys2Proof/Laws/Lines.lean ====
section
/-! SUPPORT. What one line event, one bit, one byte, one commit and one frame do to the levels, the trace and the chain. -/

namespace Sys2Proof.Machine

@[simp] theorem Lines.get_set_same (lv : Lines) (l : Line) (v : Bool) : (lv.set l v).get l = v := by cases l <;> rfl

theorem Lines.get_set_other (lv : Lines) {l l' : Line} (v : Bool) (h : l' ≠ l) : (lv.set l v).get l' = lv.get l' := by
  cases l <;> cases l' <;> first | rfl | exact absurd rfl h

@[simp] theorem Lines.set_get (lv : Lines) (l : Line) : lv.set l (lv.get l) = lv := by cases l <;> rfl

section SetLine
variable (cb : Nat) (v : Bool) (b : Bank)

@[simp] theorem Bank.setLine_lv (l : Line) : (b.setLine cb l v).lv = b.lv.set l v := rfl
@[simp] theorem Bank.setLine_trace (l : Line) : (b.setLine cb l v).trace = b.trace ++ [(l, v)] := rfl

theorem Bank.setLine_shift (l : Line) :
    (b.setLine cb l v).shift =
      if l = .clock ∧ b.lv.rises l v then (b.lv.data :: b.shift).take cb else b.shift := rfl

theorem Bank.setLine_latch (l : Line) :
    (b.setLine cb l v).latch = if l = .strobe ∧ b.lv.rises l v then b.shift else b.latch := rfl

/-- The length of the shift stage is kept. -/
theorem Bank.setLine_shift_length (l : Line) (h : b.shift.length = cb) : (b.setLine cb l v).shift.length = cb := by
  rw [Bank.setLine_shift]; split <;> simp [h]

/-- The length of the latch stage is kept. -/
theorem Bank.setLine_latch_length (l : Line) (h : b.shift.length = cb) (h' : b.latch.length = cb) :
    (b.setLine cb l v).latch.length = cb := by
  rw [Bank.setLine_latch]; split <;> assumption

/-- A line driven to the level it holds: the event is recorded and nothing else changes (R60). -/
theorem Bank.setLine_same_level (l : Line) :
    b.setLine cb l (b.lv.get l) = { b with trace := b.trace ++ [(l, b.lv.get l)] } := by
  have hr : b.lv.rises l (b.lv.get l) = false := by simp [Lines.rises]
  simp [Bank.setLine, hr]

/-- All that a bit cell does (R190, R240): DATA and CLOCK end at the bit and 1, three events, one shift, no latch. -/
theorem Bank.sendBit_eq :
    b.sendBit cb v =
      { lv := { b.lv with data := v, clock := true }
        trace := b.trace ++ bitCell v
        shift := (v :: b.shift).take cb
        latch := b.latch } := by
  simp [Bank.sendBit, Bank.setLine, Lines.set, Lines.rises, Lines.get, bitCell]

/-- All that a commit does (R192, R241). -/
theorem Bank.commit_eq :
    b.commit cb =
      { lv := { b.lv with strobe := false }
        trace := b.trace ++ commitEvents
        shift := b.shift
        latch := if b.lv.strobe then b.latch else b.shift } := by
  cases h : b.lv.strobe <;> simp [Bank.commit, Bank.setLine, Lines.set, Lines.rises, Lines.get, commitEvents, h]

end SetLine

/-- Bits sent one after the other. -/
def Bank.sendBits (cb : Nat) (bits : List Bool) (b : Bank) : Bank := bits.foldl (fun b v => b.sendBit cb v) b

theorem Bank.sendByte_eq_sendBits (cb : Nat) (p : Pattern) (b : Bank) :
    b.sendByte cb p = b.sendBits cb (patternBits p) := by
  simp [Bank.sendByte, Bank.sendBits, patternBits, List.foldl_map]

theorem take_append_take {α : Type} (xs ys : List α) (n : Nat) : (xs ++ ys.take n).take n = (xs ++ ys).take n := by
  simp [List.take_append, List.take_take]

theorem take_append_cons_take {α : Type} (xs : List α) (x y : α) (ys : List α) (n : Nat) :
    (xs ++ x :: (y :: ys).take n).take n = (xs ++ x :: y :: ys).take n := by
  simpa using take_append_take (xs ++ [x]) (y :: ys) n

/-- All that a run of bits does, from a chain of `cb` bits. -/
theorem Bank.sendBits_eq (cb : Nat) : ∀ (bits : List Bool) (b : Bank), b.shift.length ≤ cb →
    b.sendBits cb bits =
      { lv := if bits = [] then b.lv else { b.lv with data := bits.getLastD false, clock := true }
        trace := b.trace ++ bits.flatMap bitCell
        shift := (bits.reverse ++ b.shift).take cb
        latch := b.latch }
  | [], b, h => by simp [Bank.sendBits, List.take_of_length_le h]
  | v :: bits, b, _ => by
    have ih := Bank.sendBits_eq cb bits (b.sendBit cb v) (by rw [Bank.sendBit_eq]; simp)
    have e : b.sendBits cb (v :: bits) = (b.sendBit cb v).sendBits cb bits := rfl
    rw [e, ih, Bank.sendBit_eq]
    cases bits <;> simp [take_append_cons_take]

theorem foldl_sendByte_eq_sendBits (cb : Nat) : ∀ (f : List Pattern) (b : Bank),
    f.foldl (fun b p => b.sendByte cb p) b = b.sendBits cb (stream f)
  | [], _ => rfl
  | p :: f, b => by
    rw [List.foldl_cons, foldl_sendByte_eq_sendBits cb f, Bank.sendByte_eq_sendBits]
    simp only [stream, List.flatMap_cons, Bank.sendBits, List.foldl_append]

/-- All that a frame transmission does, from a chain of `cb` bits (R193, R198, R244). -/
theorem Bank.transmit_eq (cb : Nat) (f : List Pattern) (b : Bank) (h : b.shift.length ≤ cb) :
    b.transmit cb f =
      { lv :=
          { b.lv with
            data := if f = [] then b.lv.data else (stream f).getLastD false
            clock := if f = [] then b.lv.clock else true
            strobe := false }
        trace := b.trace ++ frameEvents f
        shift := ((stream f).reverse ++ b.shift).take cb
        latch := if b.lv.strobe then b.latch else ((stream f).reverse ++ b.shift).take cb } := by
  rw [Bank.transmit, foldl_sendByte_eq_sendBits, Bank.sendBits_eq _ _ _ h, Bank.commit_eq]
  have hs : stream f = [] ↔ f = [] := by cases f <;> simp [stream, patternBits]
  have ht : (stream f).flatMap bitCell = f.flatMap byteEvents := by
    simp only [stream, List.flatMap_assoc]; rfl
  by_cases hf : f = []
  · subst hf
    simp [stream, frameEvents]
  · have hs' : stream f ≠ [] := fun h => hf (hs.mp h)
    simp [hf, hs', frameEvents, ht]

@[simp] theorem patternBits_length (p : Pattern) : (patternBits p).length = 8 := by simp [patternBits]

theorem stream_length (f : List Pattern) : (stream f).length = 8 * f.length := by
  induction f with
  | nil => rfl
  | cons p f ih => simp only [stream, List.flatMap_cons, List.length_append, patternBits_length, List.length_cons] at *; omega

theorem frameEvents_length (f : List Pattern) : (frameEvents f).length = 24 * f.length + 2 := by
  induction f with
  | nil => rfl
  | cons p f ih =>
    have hb : (byteEvents p).length = 24 := by
      simp [byteEvents, patternBits, bitCell, List.length_flatMap, Function.comp_def]
    simp only [frameEvents, List.flatMap_cons, List.length_append, List.length_cons, hb] at *
    omega

/-- Events made in order, split. -/
theorem Bank.replay_append (cb : Nat) : ∀ (es es' : List Event) (b : Bank),
    Bank.replay cb (es ++ es') b = Bank.replay cb es' (Bank.replay cb es b)
  | [], _, _ => rfl
  | (l, v) :: es, es', b => by simp [Bank.replay, Bank.replay_append cb es es']

end Sys2Proof.Machine
end

