-- ==== Sys2Proof/Laws/Memory.lean ====
section
/-! SUPPORT. The input buffer: reads after loads and stores, and the canonical form that every operation keeps. -/

namespace Sys2Proof.Machine

theorem cellsOk_mono {lo lo' hi : Nat} (h : lo' ≤ lo) : ∀ {cs : List Host.Cell}, cellsOk lo hi cs = true → cellsOk lo' hi cs = true
  | [], _ => rfl
  | (a, b) :: cs, hc => by
    simp only [cellsOk, Bool.and_eq_true, decide_eq_true_eq] at hc ⊢
    exact ⟨⟨⟨by omega, hc.1.1.2⟩, hc.1.2⟩, hc.2⟩

/-- An address below the first listed one reads as unlisted. -/
theorem cellAt_below {lo hi x : Nat} (hx : x < lo) :
    ∀ {cs : List Host.Cell}, cellsOk lo hi cs = true → cellAt cs x = unlistedByte
  | [], _ => rfl
  | (a, b) :: cs, hc => by
    simp only [cellsOk, Bool.and_eq_true, decide_eq_true_eq] at hc
    have : a ≠ x := by omega
    simp only [cellAt, this, if_false]
    exact cellAt_below (by omega) hc.2

theorem putCell_ok {hi x : Nat} {b : Byte} (hx : x < hi) :
    ∀ {lo : Nat} {cs : List Host.Cell}, lo ≤ x → cellsOk lo hi cs = true → cellsOk lo hi (putCell x b cs) = true
  | lo, [], hl, _ => by
    by_cases hb : b = unlistedByte
    · simp [putCell, hb, cellsOk]
    · simp [putCell, hb, cellsOk, hl, hx]
  | lo, (a, c) :: cs, hl, hc => by
    have hc' := hc
    simp only [cellsOk, Bool.and_eq_true, decide_eq_true_eq] at hc
    obtain ⟨⟨⟨h1, h2⟩, h3⟩, h4⟩ := hc
    unfold putCell
    split
    · rename_i hxa
      split
      · exact hc'
      · rename_i hb
        simp only [cellsOk, Bool.and_eq_true, decide_eq_true_eq]
        exact ⟨⟨⟨hl, hx⟩, hb⟩, ⟨⟨by omega, h2⟩, h3⟩, h4⟩
    · split
      · rename_i hxa
        subst hxa
        split
        · exact cellsOk_mono (by omega) h4
        · rename_i hb
          simp only [cellsOk, Bool.and_eq_true, decide_eq_true_eq]
          exact ⟨⟨⟨hl, hx⟩, hb⟩, h4⟩
      · simp only [cellsOk, Bool.and_eq_true, decide_eq_true_eq]
        exact ⟨⟨⟨h1, h2⟩, h3⟩, putCell_ok hx (by omega) h4⟩

theorem cellAt_putCell {hi x y : Nat} {b : Byte} :
    ∀ {lo : Nat} {cs : List Host.Cell}, cellsOk lo hi cs = true →
      cellAt (putCell x b cs) y = if x = y then b else cellAt cs y
  | lo, [], _ => by
    by_cases hb : b = unlistedByte <;> by_cases hxy : x = y <;> simp [putCell, hb, cellAt, hxy]
  | lo, (a, c) :: cs, hc => by
    have hc' := hc
    simp only [cellsOk, Bool.and_eq_true, decide_eq_true_eq] at hc
    obtain ⟨⟨⟨h1, h2⟩, h3⟩, h4⟩ := hc
    have ih := cellAt_putCell (x := x) (y := y) (b := b) h4
    unfold putCell
    split
    · rename_i hxa
      split
      · rename_i hb
        by_cases hxy : x = y
        · subst hxy
          have hne : a ≠ x := by omega
          simp only [cellAt, hne, if_false, if_true, hb]
          exact cellAt_below (by omega) h4
        · simp [hxy]
      · by_cases hxy : x = y <;> simp [cellAt, hxy]
    · split
      · rename_i hxa
        subst hxa
        by_cases hxy : x = y
        · subst hxy
          split
          · rename_i hb
            simp only [if_true, hb]
            exact cellAt_below (by omega) h4
          · simp [cellAt]
        · split <;> simp [cellAt, hxy]
      · by_cases hay : a = y
        · subst hay
          have : x ≠ a := by assumption
          simp [cellAt, this]
        · simp only [cellAt, hay, if_false]
          exact ih

theorem Memory.write_size (m : Memory) (a : Nat) (b : Byte) : (m.write a b).size = m.size := by
  unfold Memory.write; split <;> rfl

/-- A store keeps the canonical form. -/
theorem Memory.write_wf {m : Memory} (h : m.wf = true) (a : Nat) (b : Byte) : (m.write a b).wf = true := by
  unfold Memory.write
  split
  · exact putCell_ok (by assumption) (Nat.zero_le _) h
  · exact h

/-- A read after a store: the stored byte at its address, the old byte elsewhere, none outside the buffer. -/
theorem Memory.read_write {m : Memory} (h : m.wf = true) (a x : Nat) (b : Byte) :
    (m.write a b).read x = if a = x ∧ x < m.size then some b else m.read x := by
  unfold Memory.write
  split
  · rename_i ha
    simp only [Memory.read, cellAt_putCell h]
    by_cases hx : x < m.size <;> by_cases hax : a = x <;> simp [hx, hax]
  · rename_i ha
    have : ¬ (a = x ∧ x < m.size) := by rintro ⟨rfl, hx⟩; exact ha hx
    simp [this]

theorem cellsFrom_ok : ∀ (bs : List Byte) (a : Nat), cellsOk a (a + bs.length) (cellsFrom a bs) = true
  | [], _ => rfl
  | b :: bs, a => by
    have ih := cellsFrom_ok bs (a + 1)
    have e : a + 1 + bs.length = a + (b :: bs).length := by simp; omega
    rw [e] at ih
    unfold cellsFrom
    split
    · exact cellsOk_mono (by omega) ih
    · rename_i hb
      simp only [cellsOk, Bool.and_eq_true, decide_eq_true_eq]
      exact ⟨⟨⟨by omega, by simp⟩, hb⟩, ih⟩

/-- The loaded buffer has the canonical form. -/
theorem Memory.load_wf (bs : List Byte) : (Memory.load bs).wf = true := by
  have := cellsFrom_ok bs 0
  simpa [Memory.wf, Memory.load] using this

theorem cellAt_cellsFrom : ∀ (bs : List Byte) (a x : Nat), cellAt (cellsFrom a bs) (a + x) = bs.getD x unlistedByte
  | [], _, _ => by simp [cellsFrom, cellAt]
  | b :: bs, a, 0 => by
    unfold cellsFrom
    split
    · rename_i hb
      simp only [Nat.add_zero, List.getD_cons_zero, hb]
      exact cellAt_below (by omega) (cellsFrom_ok bs (a + 1))
    · simp [cellAt]
  | b :: bs, a, x + 1 => by
    have ih := cellAt_cellsFrom bs (a + 1) x
    have e : a + 1 + x = a + (x + 1) := by omega
    rw [e] at ih
    unfold cellsFrom
    split
    · simpa using ih
    · have : a ≠ a + (x + 1) := by omega
      simp only [cellAt, this, if_false, List.getD_cons_succ]
      exact ih

@[simp] theorem Memory.load_size (bs : List Byte) : (Memory.load bs).size = bs.length := rfl

/-- A loaded buffer reads as the bytes the host handed over. -/
theorem Memory.read_load (bs : List Byte) (x : Nat) : (Memory.load bs).read x = bs[x]? := by
  have h := cellAt_cellsFrom bs 0 x
  rw [Nat.zero_add] at h
  by_cases hx : x < bs.length
  · simp [Memory.read, Memory.load, hx, h]
  · simp [Memory.read, Memory.load, hx]

@[simp] theorem Memory.bytes_length (m : Memory) : m.bytes.length = m.size := by simp [Memory.bytes]

@[simp] theorem Memory.bytes_load (bs : List Byte) : (Memory.load bs).bytes = bs := by
  apply List.ext_getElem
  · simp
  · intro x hx hx'
    have h := cellAt_cellsFrom bs 0 x
    rw [Nat.zero_add] at h
    simp [Memory.bytes, Memory.load, h, hx']

/-- A byte of the buffer is the byte its address reads. -/
theorem Memory.bytes_getElem? (m : Memory) (x : Nat) : m.bytes[x]? = m.read x := by
  by_cases hx : x < m.size <;> simp [Memory.bytes, Memory.read, hx]

end Sys2Proof.Machine
end

