-- ==== Sys2Proof/Laws/Exec.lean ====
section
/-! SUPPORT. What the transactions, an instruction and a step can do, each said once. -/

namespace Sys2Proof.Machine

theorem State.renderRefusal_none {s : State} {buf : List Byte} {len : Nat} :
    s.renderRefusal buf len = none ↔ s.seq = .idle ∧ s.ready = true ∧ len ≤ buf.length := by
  unfold State.renderRefusal State.portRefusal State.busy
  cases hs : s.seq <;> cases hr : s.ready <;> simp

theorem State.setupRefusal_none {s : State} :
    s.setupRefusal = none ↔ s.cfg.valid = true ∧ s.ready = true ∧ s.seq = .unconfigured := by
  unfold State.setupRefusal
  cases hv : s.cfg.valid <;> cases hr : s.ready <;> by_cases hs : s.seq = .unconfigured <;> simp [hs]

/-- The answer of a Setup in an illegal configuration (R264, R271, R291). -/
theorem State.setupRefusal_illegal {s : State} (h : s.cfg.valid = false) : s.setupRefusal = some s.configRefusal := by
  simp [State.setupRefusal, h]

/-- Startup in an illegal configuration refuses it (R264). -/
theorem State.startup_illegal {cfg : Cfg} (h : cfg.valid = false) (par : Params) (table : List Pattern) :
    (State.startup cfg par table).configRefused = true ∧ (State.startup cfg par table).verdict = .refused [.badConfig] := by
  simp [State.startup, h]

/-- A Render that meets its preconditions runs to completion (R150). -/
theorem State.runRender_accepted {s : State} {buf : List Byte} {len : Nat} (hs : s.seq = .idle) (hr : s.ready = true)
    (hl : len ≤ buf.length) : s.runRender buf len = (s.accept buf len).complete := by
  simp [State.runRender, State.renderRefusal_none.mpr ⟨hs, hr, hl⟩]

/-- What running Render can do. -/
theorem State.runRender_cases (s : State) (buf : List Byte) (len : Nat) :
    (∃ r, s.renderRefusal buf len = some r ∧ s.runRender buf len = s.refuse r) ∨
      (s.seq = .idle ∧ s.ready = true ∧ len ≤ buf.length ∧ s.runRender buf len = (s.accept buf len).complete) := by
  cases h : s.renderRefusal buf len with
  | some r => exact .inl ⟨r, rfl, by simp [State.runRender, h]⟩
  | none =>
    obtain ⟨h1, h2, h3⟩ := State.renderRefusal_none.mp h
    exact .inr ⟨h1, h2, h3, State.runRender_accepted h1 h2 h3⟩

/-- What presenting Render can do. -/
theorem State.presentRender_cases (s : State) (buf : List Byte) (len : Nat) :
    (∃ r, s.renderRefusal buf len = some r ∧ s.presentRender buf len = s.refuse r) ∨
      (s.seq = .idle ∧ s.ready = true ∧ len ≤ buf.length ∧ s.presentRender buf len = s.accept buf len) := by
  cases h : s.renderRefusal buf len with
  | some r => exact .inl ⟨r, rfl, by simp [State.presentRender, h]⟩
  | none =>
    obtain ⟨h1, h2, h3⟩ := State.renderRefusal_none.mp h
    exact .inr ⟨h1, h2, h3, by simp [State.presentRender, h]⟩

/-- What Setup can do. -/
theorem State.runSetup_cases (s : State) :
    (∃ r, s.setupRefusal = some r ∧ s.runSetup = s.refuse r) ∨
      (s.cfg.valid = true ∧ s.ready = true ∧ s.seq = .unconfigured ∧
        s.runSetup = ((s.setLine .oe s.par.oeSetupLevel).withSeq .idle).withVerdict .accepted) := by
  cases h : s.setupRefusal with
  | some r => exact .inl ⟨r, rfl, by simp [State.runSetup, h]⟩
  | none =>
    obtain ⟨h1, h2, h3⟩ := State.setupRefusal_none.mp h
    exact .inr ⟨h1, h2, h3, by simp [State.runSetup, h]⟩

/-- A completed Render, field by field (R150). -/
theorem State.complete_accept (s : State) (buf : List Byte) (len : Nat) :
    (s.accept buf len).complete =
      { s with
        seq := .idle
        input := Memory.load buf
        len := len
        scan := renderScan s.cfg.n s.table s.par.whitespace buf len s.scan
        bank :=
          s.bank.transmit s.par.chainBits (renderScan s.cfg.n s.table s.par.whitespace buf len s.scan).frame
        verdict := .accepted } := by
  have hb : (Memory.load buf).bytes = buf := Memory.bytes_load buf
  simp only [State.complete, State.accept, State.renderFrame, State.transmit, State.withSeq, State.withScan,
    State.withBank, State.withRequest, State.withVerdict, hb]
  rfl

/-- What an instruction can do when it completes. -/
theorem exec_next_cases {i : Instr} {s t : State} (h : exec i s = .next t) :
    (∃ c, t = s.scanStep c) ∨ t = s.runSetup ∨ (∃ buf len, t = s.runRender buf len) ∨
      (∃ buf len, len ≤ buf.length ∧ t = s.renderFrame buf len) ∨ (∃ x, t = s.withRet x) ∨
      (∃ v, t = s.withBank (s.bank.sendBit s.par.chainBits v)) ∨
      (∃ p, t = s.withBank (s.bank.sendByte s.par.chainBits p)) ∨
      t = s.withBank (s.bank.commit s.par.chainBits) ∨ (∃ f, t = s.transmit f) ∨ (∃ l v, t = s.setLine l v) := by
  cases i
  case setup => exact .inr (.inl (Host.Outcome.next.inj h).symm)
  case render buf len => exact .inr (.inr (.inl ⟨buf, len, (Host.Outcome.next.inj h).symm⟩))
  case hostwrite buf => exact .inr (.inr (.inl ⟨buf, _, (Host.Outcome.next.inj h).symm⟩))
  case renderframe buf len =>
    simp only [exec, execRenderframe] at h
    split at h
    · exact .inr (.inr (.inr (.inl ⟨buf, len, ‹_›, (Host.Outcome.next.inj h).symm⟩)))
    · cases h
  case lookup k =>
    simp only [exec, execLookup] at h
    split at h
    · exact .inr (.inr (.inr (.inr (.inl ⟨_, (Host.Outcome.next.inj h).symm⟩))))
    · cases h
  case classify c => exact .inr (.inr (.inr (.inr (.inl ⟨_, (Host.Outcome.next.inj h).symm⟩))))
  case sendbit v => exact .inr (.inr (.inr (.inr (.inr (.inl ⟨v, (Host.Outcome.next.inj h).symm⟩)))))
  case sendbyte p => exact .inr (.inr (.inr (.inr (.inr (.inr (.inl ⟨p, (Host.Outcome.next.inj h).symm⟩))))))
  case commit => exact .inr (.inr (.inr (.inr (.inr (.inr (.inr (.inl (Host.Outcome.next.inj h).symm)))))))
  case transmitframe f =>
    simp only [exec, execTransmitframe] at h
    split at h
    · exact .inr (.inr (.inr (.inr (.inr (.inr (.inr (.inr (.inl ⟨f, (Host.Outcome.next.inj h).symm⟩))))))))
    · cases h
  case setline l v =>
    exact .inr (.inr (.inr (.inr (.inr (.inr (.inr (.inr (.inr ⟨l, v, (Host.Outcome.next.inj h).symm⟩))))))))
  all_goals exact .inl ⟨_, (Host.Outcome.next.inj h).symm⟩

@[simp] theorem exec_setline (l : Line) (v : Bool) (s : State) : exec (.setline l v) s = .next (s.setLine l v) := rfl

/-- What the block's own step can do: wait, compute the frame, or make one line event (R195). -/
theorem State.blockStep_next_cases {s t : State} (h : s.blockStep = .next t) :
    ((s.seq = .unconfigured ∨ s.seq = .idle) ∧ t = s) ∨
      (s.seq = .compute ∧ s.len ≤ s.input.size ∧
        t = (s.renderFrame s.input.bytes s.len).withSeq (.shift 0 0 .clkLow)) ∨
      (∃ j k p, s.seq = .shift j k .clkLow ∧ j < s.cfg.n ∧ s.scan.frame[j]? = some p ∧
        t = (s.setLine .clock false).withSeq (.shift j k .dataSet)) ∨
      (∃ j k p, s.seq = .shift j k .dataSet ∧ j < s.cfg.n ∧ s.scan.frame[j]? = some p ∧
        t = (s.setLine .data (p.getLsbD k.val)).withSeq (.shift j k .clkHigh)) ∨
      (∃ j k p, s.seq = .shift j k .clkHigh ∧ j < s.cfg.n ∧ s.scan.frame[j]? = some p ∧
        t = (s.setLine .clock true).withSeq (seqAfterBit s.cfg.n j k)) ∨
      (s.seq = .strobeHigh ∧ t = (s.setLine .strobe true).withSeq .strobeLow) ∨
      (s.seq = .strobeLow ∧ t = (s.setLine .strobe false).withSeq .idle) := by
  unfold State.blockStep State.issue at h
  cases hs : s.seq with
  | unconfigured => simp only [hs] at h; exact .inl ⟨.inl rfl, (Host.Outcome.next.inj h).symm⟩
  | idle => simp only [hs] at h; exact .inl ⟨.inr rfl, (Host.Outcome.next.inj h).symm⟩
  | compute =>
    by_cases hl : s.len ≤ s.input.size
    · simp only [hs, hl, if_true, execThen, exec, execRenderframe, Memory.bytes_length] at h
      exact .inr (.inl ⟨rfl, hl, (Host.Outcome.next.inj h).symm⟩)
    · simp [hs, hl] at h
  | shift j k ph =>
    by_cases hj : s.cfg.n ≤ j
    · simp [hs, hj] at h
    · cases hp : s.scan.frame[j]? with
      | none => simp [hs, hj, hp] at h
      | some p =>
        cases ph <;> simp only [hs, hj, hp, if_false, execThen, exec_setline] at h
        · exact .inr (.inr (.inl ⟨j, k, p, rfl, by omega, hp, (Host.Outcome.next.inj h).symm⟩))
        · exact .inr (.inr (.inr (.inl ⟨j, k, p, rfl, by omega, hp, (Host.Outcome.next.inj h).symm⟩)))
        · exact .inr (.inr (.inr (.inr (.inl ⟨j, k, p, rfl, by omega, hp, (Host.Outcome.next.inj h).symm⟩))))
  | strobeHigh =>
    simp only [hs, execThen, exec_setline] at h
    exact .inr (.inr (.inr (.inr (.inr (.inl ⟨rfl, (Host.Outcome.next.inj h).symm⟩)))))
  | strobeLow =>
    simp only [hs, execThen, exec_setline] at h
    exact .inr (.inr (.inr (.inr (.inr (.inr ⟨rfl, (Host.Outcome.next.inj h).symm⟩)))))

/-- What a byte step of COMPUTE can do (log 11). -/
theorem State.byteStep_next_cases {s t : State} (h : s.byteStep = .next t) :
    (s.scan.goesOn s.cfg.n = true ∧ ∃ c, s.input.read (s.scan.i - 1) = some c ∧ exec (decodeByte c) s = .next t) ∨
      (s.scan.goesOn s.cfg.n = false ∧ t = (s.withScan (s.scan.pad s.cfg.n)).withSeq (.shift 0 0 .clkLow)) := by
  unfold State.byteStep at h
  cases hg : s.scan.goesOn s.cfg.n with
  | false => simp only [hg, Bool.false_eq_true, if_false] at h; exact .inr ⟨rfl, (Host.Outcome.next.inj h).symm⟩
  | true =>
    simp only [hg, if_true] at h
    cases hc : s.input.read (s.scan.i - 1) with
    | none => simp [hc] at h
    | some c => simp only [hc, decode] at h; exact .inl ⟨rfl, c, rfl, h⟩

/-- What one input of the host side can do to a block in flight: nothing but READY, the buffer's bytes and the verdict. -/
theorem State.land_busy {s : State} (hb : s.busy = true) (x : HostInput) :
    ∃ r m v, m.size = s.input.size ∧ (s.input.wf = true → m.wf = true) ∧
      s.land x = { s with ready := r, input := m, verdict := v } := by
  have hi : s.seq ≠ .idle := by intro h; simp [State.busy, h] at hb
  have hu : s.seq ≠ .unconfigured := by intro h; simp [State.busy, h] at hb
  cases x with
  | wait => exact ⟨_, _, _, rfl, id, rfl⟩
  | ready v => exact ⟨v, _, _, rfl, id, rfl⟩
  | store a b => exact ⟨_, s.input.write a b, _, Memory.write_size _ _ _, fun h => Memory.write_wf h a b, rfl⟩
  | present t =>
    cases t with
    | setup =>
      rcases s.runSetup_cases with ⟨r, _, h⟩ | ⟨_, _, h, _⟩
      · exact ⟨_, _, .refused r, rfl, id, h⟩
      · exact absurd h hu
    | render buf len =>
      rcases s.presentRender_cases buf len with ⟨r, _, h⟩ | ⟨h, _⟩
      · exact ⟨_, _, .refused r, rfl, id, h⟩
      · exact absurd h hi
    | hostwrite buf =>
      rcases s.presentRender_cases buf (hostLength s.cfg s.par buf) with ⟨r, _, h⟩ | ⟨h, _⟩
      · exact ⟨_, _, .refused r, rfl, id, h⟩
      · exact absurd h hi

/-- The host's next input before a step of a block in flight. -/
theorem State.landNext_busy {s : State} (hb : s.busy = true) :
    ∃ r m v hs, m.size = s.input.size ∧ (s.input.wf = true → m.wf = true) ∧
      s.landNext = { s with ready := r, input := m, verdict := v, host := hs } := by
  unfold State.landNext
  split
  · exact ⟨_, _, _, _, rfl, id, rfl⟩
  · rename_i x rest _
    obtain ⟨r, m, v, h1, h2, h3⟩ := State.land_busy hb x
    exact ⟨r, m, v, rest, h1, h2, by rw [h3]; rfl⟩

/-- What a step can do, by the phase it starts in. -/
theorem step_next_cases {s t : State} (h : step s = .next t) :
    (s.seq = .compute ∧ s.byteGrain = true ∧ s.byteStep = .next t) ∨
      (s.seq = .compute ∧ s.byteGrain = false ∧ s.blockStep = .next t) ∨
      (s.seq ≠ .compute ∧ s.busy = true ∧ s.landNext.blockStep = .next t) ∨
      (s.busy = false ∧ t = s.landNext) := by
  unfold step machineStep at h
  split at h
  · rename_i hc
    split at h
    · exact .inl ⟨hc, ‹_›, h⟩
    · exact .inr (.inl ⟨hc, by simpa using ‹¬ s.byteGrain = true›, h⟩)
  · rename_i hc
    split at h
    · exact .inr (.inr (.inl ⟨hc, ‹_›, h⟩))
    · rename_i hb
      exact .inr (.inr (.inr ⟨by simpa using hb, (Host.Outcome.next.inj h).symm⟩))

end Sys2Proof.Machine
end

