-- ==== Sys2Proof/Laws/PerInstr.lean ====
section
/-! SUPPORT. Per-instruction families. OneByteLong: an instruction's encoding, where it has one, is one byte long (R92). -/

namespace Sys2Proof.Laws

/-- Every word that encodes the instruction is one byte long. -/
def OneByteLong.Statement (i : Instr) : Prop := ∀ w, encode i = some w → w.length = 1

/-- An encoding is the encoded byte alone, whatever the instruction. -/
theorem oneByteLong_all (i : Instr) : OneByteLong.Statement i := by
  intro w h
  obtain ⟨b, _, rfl⟩ := Option.map_eq_some_iff.mp h
  rfl

theorem OneByteLong.dotPeriod : OneByteLong.Statement .dotPeriod := oneByteLong_all _
theorem OneByteLong.dotColon : OneByteLong.Statement .dotColon := oneByteLong_all _
theorem OneByteLong.digit0 : OneByteLong.Statement .digit0 := oneByteLong_all _
theorem OneByteLong.digit1 : OneByteLong.Statement .digit1 := oneByteLong_all _
theorem OneByteLong.digit2 : OneByteLong.Statement .digit2 := oneByteLong_all _
theorem OneByteLong.digit3 : OneByteLong.Statement .digit3 := oneByteLong_all _
theorem OneByteLong.digit4 : OneByteLong.Statement .digit4 := oneByteLong_all _
theorem OneByteLong.digit5 : OneByteLong.Statement .digit5 := oneByteLong_all _
theorem OneByteLong.digit6 : OneByteLong.Statement .digit6 := oneByteLong_all _
theorem OneByteLong.digit7 : OneByteLong.Statement .digit7 := oneByteLong_all _
theorem OneByteLong.digit8 : OneByteLong.Statement .digit8 := oneByteLong_all _
theorem OneByteLong.digit9 : OneByteLong.Statement .digit9 := oneByteLong_all _
theorem OneByteLong.lowerA : OneByteLong.Statement .lowerA := oneByteLong_all _
theorem OneByteLong.lowerB : OneByteLong.Statement .lowerB := oneByteLong_all _
theorem OneByteLong.lowerC : OneByteLong.Statement .lowerC := oneByteLong_all _
theorem OneByteLong.lowerD : OneByteLong.Statement .lowerD := oneByteLong_all _
theorem OneByteLong.lowerE : OneByteLong.Statement .lowerE := oneByteLong_all _
theorem OneByteLong.lowerF : OneByteLong.Statement .lowerF := oneByteLong_all _
theorem OneByteLong.lowerG : OneByteLong.Statement .lowerG := oneByteLong_all _
theorem OneByteLong.lowerH : OneByteLong.Statement .lowerH := oneByteLong_all _
theorem OneByteLong.lowerI : OneByteLong.Statement .lowerI := oneByteLong_all _
theorem OneByteLong.lowerJ : OneByteLong.Statement .lowerJ := oneByteLong_all _
theorem OneByteLong.lowerK : OneByteLong.Statement .lowerK := oneByteLong_all _
theorem OneByteLong.lowerL : OneByteLong.Statement .lowerL := oneByteLong_all _
theorem OneByteLong.lowerM : OneByteLong.Statement .lowerM := oneByteLong_all _
theorem OneByteLong.lowerN : OneByteLong.Statement .lowerN := oneByteLong_all _
theorem OneByteLong.lowerO : OneByteLong.Statement .lowerO := oneByteLong_all _
theorem OneByteLong.lowerP : OneByteLong.Statement .lowerP := oneByteLong_all _
theorem OneByteLong.lowerQ : OneByteLong.Statement .lowerQ := oneByteLong_all _
theorem OneByteLong.lowerR : OneByteLong.Statement .lowerR := oneByteLong_all _
theorem OneByteLong.lowerS : OneByteLong.Statement .lowerS := oneByteLong_all _
theorem OneByteLong.lowerT : OneByteLong.Statement .lowerT := oneByteLong_all _
theorem OneByteLong.lowerU : OneByteLong.Statement .lowerU := oneByteLong_all _
theorem OneByteLong.lowerV : OneByteLong.Statement .lowerV := oneByteLong_all _
theorem OneByteLong.lowerW : OneByteLong.Statement .lowerW := oneByteLong_all _
theorem OneByteLong.lowerX : OneByteLong.Statement .lowerX := oneByteLong_all _
theorem OneByteLong.lowerY : OneByteLong.Statement .lowerY := oneByteLong_all _
theorem OneByteLong.lowerZ : OneByteLong.Statement .lowerZ := oneByteLong_all _
theorem OneByteLong.upperA : OneByteLong.Statement .upperA := oneByteLong_all _
theorem OneByteLong.upperB : OneByteLong.Statement .upperB := oneByteLong_all _
theorem OneByteLong.upperC : OneByteLong.Statement .upperC := oneByteLong_all _
theorem OneByteLong.upperD : OneByteLong.Statement .upperD := oneByteLong_all _
theorem OneByteLong.upperE : OneByteLong.Statement .upperE := oneByteLong_all _
theorem OneByteLong.upperF : OneByteLong.Statement .upperF := oneByteLong_all _
theorem OneByteLong.upperG : OneByteLong.Statement .upperG := oneByteLong_all _
theorem OneByteLong.upperH : OneByteLong.Statement .upperH := oneByteLong_all _
theorem OneByteLong.upperI : OneByteLong.Statement .upperI := oneByteLong_all _
theorem OneByteLong.upperJ : OneByteLong.Statement .upperJ := oneByteLong_all _
theorem OneByteLong.upperK : OneByteLong.Statement .upperK := oneByteLong_all _
theorem OneByteLong.upperL : OneByteLong.Statement .upperL := oneByteLong_all _
theorem OneByteLong.upperM : OneByteLong.Statement .upperM := oneByteLong_all _
theorem OneByteLong.upperN : OneByteLong.Statement .upperN := oneByteLong_all _
theorem OneByteLong.upperO : OneByteLong.Statement .upperO := oneByteLong_all _
theorem OneByteLong.upperP : OneByteLong.Statement .upperP := oneByteLong_all _
theorem OneByteLong.upperQ : OneByteLong.Statement .upperQ := oneByteLong_all _
theorem OneByteLong.upperR : OneByteLong.Statement .upperR := oneByteLong_all _
theorem OneByteLong.upperS : OneByteLong.Statement .upperS := oneByteLong_all _
theorem OneByteLong.upperT : OneByteLong.Statement .upperT := oneByteLong_all _
theorem OneByteLong.upperU : OneByteLong.Statement .upperU := oneByteLong_all _
theorem OneByteLong.upperV : OneByteLong.Statement .upperV := oneByteLong_all _
theorem OneByteLong.upperW : OneByteLong.Statement .upperW := oneByteLong_all _
theorem OneByteLong.upperX : OneByteLong.Statement .upperX := oneByteLong_all _
theorem OneByteLong.upperY : OneByteLong.Statement .upperY := oneByteLong_all _
theorem OneByteLong.upperZ : OneByteLong.Statement .upperZ := oneByteLong_all _
theorem OneByteLong.wsHt : OneByteLong.Statement .wsHt := oneByteLong_all _
theorem OneByteLong.wsLf : OneByteLong.Statement .wsLf := oneByteLong_all _
theorem OneByteLong.wsVt : OneByteLong.Statement .wsVt := oneByteLong_all _
theorem OneByteLong.wsFf : OneByteLong.Statement .wsFf := oneByteLong_all _
theorem OneByteLong.wsCr : OneByteLong.Statement .wsCr := oneByteLong_all _
theorem OneByteLong.wsSp : OneByteLong.Statement .wsSp := oneByteLong_all _
theorem OneByteLong.glyphPlay : OneByteLong.Statement .glyphPlay := oneByteLong_all _
theorem OneByteLong.glyphPause : OneByteLong.Statement .glyphPause := oneByteLong_all _
theorem OneByteLong.glyphStop : OneByteLong.Statement .glyphStop := oneByteLong_all _
theorem OneByteLong.segCenter : OneByteLong.Statement .segCenter := oneByteLong_all _
theorem OneByteLong.segTop : OneByteLong.Statement .segTop := oneByteLong_all _
theorem OneByteLong.segTopRight : OneByteLong.Statement .segTopRight := oneByteLong_all _
theorem OneByteLong.segBottomRight : OneByteLong.Statement .segBottomRight := oneByteLong_all _
theorem OneByteLong.segBottom : OneByteLong.Statement .segBottom := oneByteLong_all _
theorem OneByteLong.segBottomLeft : OneByteLong.Statement .segBottomLeft := oneByteLong_all _
theorem OneByteLong.segTopLeft : OneByteLong.Statement .segTopLeft := oneByteLong_all _
theorem OneByteLong.unsupported (c : Byte) : OneByteLong.Statement (.unsupported c) := oneByteLong_all _
theorem OneByteLong.setup : OneByteLong.Statement .setup := oneByteLong_all _
theorem OneByteLong.render (buf : List Byte) (len : Nat) : OneByteLong.Statement (.render buf len) := oneByteLong_all _
theorem OneByteLong.hostwrite (buf : List Byte) : OneByteLong.Statement (.hostwrite buf) := oneByteLong_all _
theorem OneByteLong.renderframe (buf : List Byte) (len : Nat) : OneByteLong.Statement (.renderframe buf len) := oneByteLong_all _
theorem OneByteLong.lookup (k : Nat) : OneByteLong.Statement (.lookup k) := oneByteLong_all _
theorem OneByteLong.classify (c : Byte) : OneByteLong.Statement (.classify c) := oneByteLong_all _
theorem OneByteLong.sendbit (v : Bool) : OneByteLong.Statement (.sendbit v) := oneByteLong_all _
theorem OneByteLong.sendbyte (p : Pattern) : OneByteLong.Statement (.sendbyte p) := oneByteLong_all _
theorem OneByteLong.commit : OneByteLong.Statement .commit := oneByteLong_all _
theorem OneByteLong.transmitframe (f : List Pattern) : OneByteLong.Statement (.transmitframe f) := oneByteLong_all _
theorem OneByteLong.setline (l : Line) (v : Bool) : OneByteLong.Statement (.setline l v) := oneByteLong_all _

end Sys2Proof.Laws
end

