-- ==== Sys2Proof/Laws/Run.lean ====
section
/-! SUPPORT. Runs of steps, taken apart. -/

namespace Sys2Proof.Machine

@[simp] theorem runSteps_zero (s : State) : runSteps 0 s = .next s := rfl

/-- A run whose first step goes on. -/
theorem runSteps_succ {s t : State} (h : step s = .next t) (k : Nat) : runSteps (k + 1) s = runSteps k t := by
  rw [runSteps, h]

/-- A run cut in two. -/
theorem runSteps_add {t : State} (k : Nat) : ∀ (j : Nat) {s : State}, runSteps j s = .next t → runSteps (j + k) s = runSteps k t
  | 0, s, h => by
    have e : s = t := Host.Outcome.next.inj h
    rw [Nat.zero_add, e]
  | j + 1, s, h => by
    rw [Nat.add_right_comm, runSteps]
    rw [runSteps] at h
    split at h
    · exact runSteps_add k j h
    · cases h
    · cases h

/-- With the host silent and a transaction in flight outside COMPUTE, a step is the block's own. -/
theorem step_busy_silent {s : State} (hh : s.host = []) (hc : s.seq ≠ .compute) (hb : s.busy = true) :
    step s = s.blockStep := by
  have hl : s.landNext = s := by simp [State.landNext, hh]
  simp [step, machineStep, hc, hb, hl]

/-- With COMPUTE in one step, a step at COMPUTE is the block's own, whatever the host does. -/
theorem step_compute {s : State} (hc : s.seq = .compute) (hg : s.byteGrain = false) : step s = s.blockStep := by
  simp [step, machineStep, hc, hg]

end Sys2Proof.Machine
end

