-- ==== Sys2Proof/Tests/Slice0.lean ====
section
/-! SUPPORT. The model's own tests: words written out from the encoding, ill-formed terms, the vectors of 95_test_vectors.md on
small states, and a witness for the hypotheses of every statement. The table of the tests is the tests' own: the spec gives
entry 36 only. -/

namespace Sys2Proof.Tests

open Sys2Proof.Machine

/-- A PatternTable for the tests, with entry 36 blank, bit 0 clear in every entry but the last, and the entries different. -/
def testTable : List Pattern :=
  (List.range 47).map fun k => if k = 36 then 0x00#8 else if k = 46 then 0xFF#8 else BitVec.ofNat 8 (2 * k + 2)

/-- Entry `k` of the tests' table. -/
def tt (k : Nat) : Pattern := testTable.getD k 0x00#8

/-- Parameters at the spec's defaults, with OE_SETUP_LEVEL 1 and OE_ACTIVE_LEVEL 0. -/
def testParams (n : Nat) : Params :=
  { whitespace := Config.whitespaceSet, truncate := true, stripCrlf := true, strobeInit := false, oeSetupLevel := true
    oeActiveLevel := false, chainBits := 8 * n, segWiring := .ofPerm 1
    digitMap := List.replicate (8 * n) 0 }

/-- An N-digit machine after startup. -/
def fresh (n : Nat) : State :=
  State.startup { n := n, pinData := 9, pinClock := 8, pinStrobe := 6, pinOe := 4 } (testParams n) testTable

/-- The same, READY and set up, with no transaction in flight. -/
def ready (n : Nat) : State := { fresh n with ready := true, seq := .idle }

/-- The same, in the middle of a scan with `i` bytes left, `count` patterns emitted and the dot as given. -/
def scanning (n i count : Nat) (dot : Bool) : State :=
  { ready n with
    seq := .compute, input := Memory.load (List.replicate i 0x35#8), len := i
    scan := { (ready n).scan with i := i, count := count, dot := dot } }

/-- An observation of a next state; none where there is no next state. -/
def see {α : Type} (f : State → α) : Host.Outcome State Fault Refusal → Option α
  | .next s => some (f s)
  | .fault _ => none
  | .refused _ => none

/-- The registers of the scan that a byte may change. -/
def regs (s : State) : Nat × Bool × Nat × List Pattern := (s.scan.i, s.scan.dot, s.scan.count, s.scan.frame)

/-- The frame that renderFrame gives for N digits. -/
def frameOf (n : Nat) (buf : List Byte) (len : Nat) : Option (List Pattern) :=
  see (fun s => s.scan.frame) (exec (.renderframe buf len) (fresh n))

/-! ### Decoding: every row's byte, written out from its encoding (R83, R84, 95 section 2) -/

theorem test_decode_dots : [0b00101110#8, 0b00111010#8].map decodeByte = [.dotPeriod, .dotColon] := by decide
theorem test_decode_digits :
    [0b00110000#8, 0b00110001#8, 0b00110010#8, 0b00110011#8, 0b00110100#8, 0b00110101#8, 0b00110110#8, 0b00110111#8,
      0b00111000#8, 0b00111001#8].map decodeByte =
    [.digit0, .digit1, .digit2, .digit3, .digit4, .digit5, .digit6, .digit7, .digit8, .digit9] := by decide
theorem test_decode_lower :
    [0x61#8, 0x62#8, 0x63#8, 0x64#8, 0x65#8, 0x66#8, 0x67#8, 0x68#8, 0x69#8, 0x6A#8, 0x6B#8, 0x6C#8, 0x6D#8, 0x6E#8, 0x6F#8,
      0x70#8, 0x71#8, 0x72#8, 0x73#8, 0x74#8, 0x75#8, 0x76#8, 0x77#8, 0x78#8, 0x79#8, 0b01111010#8].map decodeByte =
    [.lowerA, .lowerB, .lowerC, .lowerD, .lowerE, .lowerF, .lowerG, .lowerH, .lowerI, .lowerJ, .lowerK, .lowerL, .lowerM,
      .lowerN, .lowerO, .lowerP, .lowerQ, .lowerR, .lowerS, .lowerT, .lowerU, .lowerV, .lowerW, .lowerX, .lowerY,
      .lowerZ] := by decide
theorem test_decode_upper :
    [0b01000001#8, 0x42#8, 0x43#8, 0x44#8, 0x45#8, 0x46#8, 0x47#8, 0x48#8, 0x49#8, 0x4A#8, 0x4B#8, 0x4C#8, 0x4D#8, 0x4E#8,
      0x4F#8, 0x50#8, 0x51#8, 0x52#8, 0x53#8, 0x54#8, 0x55#8, 0x56#8, 0x57#8, 0x58#8, 0x59#8, 0x5A#8].map decodeByte =
    [.upperA, .upperB, .upperC, .upperD, .upperE, .upperF, .upperG, .upperH, .upperI, .upperJ, .upperK, .upperL, .upperM,
      .upperN, .upperO, .upperP, .upperQ, .upperR, .upperS, .upperT, .upperU, .upperV, .upperW, .upperX, .upperY,
      .upperZ] := by decide
theorem test_decode_whitespace :
    [0b00001001#8, 0b00001010#8, 0b00001011#8, 0b00001100#8, 0b00001101#8, 0b00100000#8].map decodeByte =
    [.wsHt, .wsLf, .wsVt, .wsFf, .wsCr, .wsSp] := by decide
theorem test_decode_glyphs :
    [0b10000000#8, 0b10000001#8, 0b10000010#8, 0b10000011#8, 0b10000100#8, 0b10000101#8, 0b10000110#8, 0b10000111#8,
      0b10001000#8, 0b10001001#8].map decodeByte =
    [.glyphPlay, .glyphPause, .glyphStop, .segCenter, .segTop, .segTopRight, .segBottomRight, .segBottom, .segBottomLeft,
      .segTopLeft] := by decide
/-- The bytes next to the ranges (95 section 2). -/
theorem test_decode_unsupported_edges :
    [0x00#8, 0x08#8, 0x0E#8, 0x1F#8, 0x21#8, 0x2D#8, 0x2F#8, 0x3B#8, 0x40#8, 0x5B#8, 0x60#8, 0x7B#8, 0x7F#8, 0x8A#8, 0xA0#8,
      0xE0#8, 0xFF#8].all (fun c => decodeByte c = .unsupported c) = true := by decide
theorem test_decode_rejects_nothing_to_read : decode [] = .error .noByte := rfl
theorem test_decode_leaves_the_rest : decode [0x35#8, 0x2E#8] = .ok (.digit5, [0x2E#8]) := rfl
theorem test_no_encoding_for_operations :
    [Instr.setup, .render [] 0, .hostwrite [], .renderframe [] 0, .lookup 0, .classify 0x00#8, .sendbit true, .sendbyte 0x00#8,
      .commit, .transmitframe [], .setline .oe true].all (fun i => encode i = none) = true := by decide
/-- A reader-made index field of the table names no bit of the byte (log 21). -/
theorem test_table_word_longer_than_a_byte : decodeTableWord 16 0x0461 = some .lowerA := by decide
theorem test_table_word_with_no_bits : decodeTableWord 0 0 = some (.unsupported 0x00#8) := by decide

/-! ### Well-formedness: what each check refuses -/

theorem test_wf_refuses_supported_unsupported : (Instr.unsupported 0x30#8).wf = false := by decide
theorem test_wf_refuses_long_renderframe : (Instr.renderframe [0x31#8] 2).wf = false := by decide
theorem test_wf_refuses_lookup_47 : (Instr.lookup 47).wf = false := by decide
theorem test_wf_takes_the_edges :
    (Instr.unsupported 0x8A#8).wf && (Instr.renderframe [0x31#8] 1).wf && (Instr.lookup 46).wf = true := by decide

/-! ### The notation of R93 -/

theorem test_text_of_render : (Txn.render [0x31#8, 0x80#8, 0x0A#8] 3).text = "render \"1\\x80\\n\", 3".toList := by decide
theorem test_payload_of_write : (Txn.hostwrite [0x20#8, 0x2E#8]).hexPayload = [['2', '0'], ['2', 'E']] := by decide

/-! ### The bytes in the scan (R153 to R156) -/

theorem test_fetch_runs_digit :
    step (State.reset.withFetchWord 8 0x35) = exec .digit5 (State.reset.withFetchWord 8 0x35) := rfl
theorem test_dot_sets_flag : see regs (exec .dotColon (scanning 2 3 1 false)) = some (2, true, 1, [0x00#8, 0x00#8]) := by
  decide
theorem test_digit_takes_dot : see regs (exec .digit9 (scanning 2 3 1 true)) = some (2, false, 2, [0x00#8, tt 9 ||| 0x01#8]) := by
  decide
theorem test_upper_and_lower :
    see regs (exec .upperB (scanning 2 1 0 false)) = some (0, false, 1, [tt 11, 0x00#8]) ∧
      see regs (exec .lowerB (scanning 2 1 0 false)) = some (0, false, 1, [tt 11, 0x00#8]) := by decide
theorem test_space_with_dot_is_a_lone_point :
    see regs (exec .wsSp (scanning 1 1 0 true)) = some (0, false, 1, [0x01#8]) := by decide
/-- R155: the OR changes nothing where bit 0 is set already (vector R-29). -/
theorem test_dot_on_a_set_bit : see regs (exec .segTopLeft (scanning 1 1 0 true)) = some (0, false, 1, [0xFF#8]) := by decide
theorem test_unsupported_keeps_dot :
    see regs (exec (.unsupported 0x21#8) (scanning 1 2 0 true)) = some (1, true, 0, [0x00#8]) := by decide
theorem test_byte_after_the_window : see regs (exec .digit1 (scanning 1 2 1 false)) = some (2, false, 1, [0x00#8]) := by decide

/-! ### renderFrame (95 section 1 and section 3) -/

theorem test_S1_dot_merges : frameOf 1 [0x35#8, 0x2E#8] 2 = some [tt 5 ||| 0x01#8] := by decide
theorem test_S2_skip : frameOf 2 [0x61#8, 0x21#8, 0x62#8] 3 = some [tt 11, tt 10] := by decide
theorem test_R1_padding :
    frameOf 5 [0x31#8, 0x32#8, 0x2E#8, 0x35#8] 4 = some [tt 5, tt 2 ||| 0x01#8, tt 1, 0x00#8, 0x00#8] := by decide
theorem test_R4_leading_dot_lost : frameOf 2 [0x2E#8, 0x35#8] 2 = some [tt 5, 0x00#8] := by decide
theorem test_R7_dot_carries : frameOf 1 [0x35#8, 0x21#8, 0x2E#8] 3 = some [tt 5 ||| 0x01#8] := by decide
theorem test_R12_dot_outside_the_window : frameOf 2 [0x31#8, 0x2E#8, 0x32#8, 0x33#8] 4 = some [tt 3, tt 2] := by decide
theorem test_R18_glyph_edge : frameOf 3 [0x83#8, 0x89#8, 0x8A#8] 3 = some [tt 46, tt 40, 0x00#8] := by decide
theorem test_R23_only_len_bytes : frameOf 2 [0x31#8, 0x32#8, 0x33#8] 2 = some [tt 2, tt 1] := by decide
theorem test_R24_dot_on_blank : frameOf 3 [0x31#8, 0x20#8, 0x2E#8, 0x32#8] 4 = some [tt 2, 0x01#8, tt 1] := by decide

/-! ### The transmitter and the chain (95 section 5) -/

/-- The DATA values that an instruction sends from the fresh one-digit machine. -/
def dataSent (i : Instr) : Option (List Bool) :=
  see (fun s => (s.bank.trace.filter fun e => decide (e.1 = .data)).map Prod.snd) (exec i (fresh 1))

theorem test_T2_sendbit : see (fun s => s.bank.trace) (exec (.sendbit true) (fresh 1)) =
    some [(.clock, false), (.data, true), (.clock, true)] := by decide
theorem test_T4_msb_last :
    dataSent (.sendbyte 0x80#8) = some [false, false, false, false, false, false, false, true] := by decide
theorem test_T5_sendbyte :
    dataSent (.sendbyte 0xA5#8) = some [true, false, true, false, false, true, false, true] := by decide
theorem test_T8_commit :
    see (fun s => s.bank.trace) (exec .commit (fresh 1)) = some [(.strobe, true), (.strobe, false)] := by decide
theorem test_T9_events : see (fun s => s.bank.trace.length) (exec (.transmitframe [0x00#8]) (fresh 1)) = some 26 := by decide
/-- Vector K-1; with CLOCK at 1 before, K-5. -/
theorem test_K1_chain :
    see (fun s => (s.bank.shift, s.bank.latch)) (exec (.transmitframe [0x01#8]) (fresh 1)) =
      some ([false, false, false, false, false, false, false, true], [false, false, false, false, false, false, false, true]) ∧
    see (fun s => s.bank.latch) (exec (.transmitframe [0x01#8])
        { fresh 1 with bank := { (fresh 1).bank with lv := { (fresh 1).bank.lv with clock := true } } }) =
      some [false, false, false, false, false, false, false, true] := by decide
/-- Vector K-4: with STROBE high before the first commit the frame is not latched. -/
theorem test_K4_first_frame_lost :
    see (fun s => s.bank.latch) (exec (.transmitframe [0x01#8])
        { fresh 1 with bank := { (fresh 1).bank with lv := { (fresh 1).bank.lv with strobe := true } } }) =
      some (List.replicate 8 false) := by decide
theorem test_setline_repeats_are_recorded :
    see (fun s => s.bank.trace.length) (exec (.setline .oe false) (fresh 1)) = some 1 := by decide
theorem test_transmitframe_refuses_a_short_frame : exec (.transmitframe [0x01#8]) (fresh 2) = .refused .notAFrame := rfl

/-! ### The host transactions (95 section 3, section 4 and section 6) -/

/-- The frame that a write leaves. -/
def written (n : Nat) (buf : List Byte) : Option (List Pattern) := see (fun s => s.scan.frame) (exec (.hostwrite buf) (ready n))

theorem test_W2_truncates :
    written 2 [0x31#8, 0x32#8, 0x33#8, 0x34#8, 0x35#8, 0x36#8, 0x0A#8] = some [tt 4, tt 3] := by decide
theorem test_W3_truncates_before_it_strips : written 1 [0x31#8, 0x0A#8, 0x32#8] = some [tt 1] := by decide
theorem test_W7_strips_all : written 2 [0x31#8, 0x0D#8, 0x0A#8, 0x0D#8] = some [tt 1, 0x00#8] := by decide
theorem test_R22_render_does_not_strip :
    see (fun s => s.scan.frame) (exec (.render [0x31#8, 0x0A#8] 2) (ready 2)) = some [0x00#8, tt 1] := by decide
/-- Program P1. -/
theorem test_P1_write :
    see (fun s => (s.scan.frame, s.bank.trace.length, s.bank.lv.data, s.bank.latch.findIdxs (· = true)))
      (exec (.hostwrite [0x20#8, 0x2E#8, 0x20#8, 0x2E#8, 0x0A#8]) (ready 2)) =
    some ([0x01#8, 0x01#8], 50, false, [7, 15]) := by decide
theorem test_setup_drives_oe :
    see (fun s => (s.seq, s.bank.lv.oe, s.bank.trace)) (exec .setup { fresh 1 with ready := true }) =
    some (.idle, true, [(.oe, true)]) := by decide
theorem test_X1_not_set_up : see (fun s => s.verdict) (exec (.render [] 0) (fresh 1)) = some (.refused [.notSetUp]) := by decide
theorem test_X2_not_ready :
    see (fun s => s.verdict) (exec (.render [] 0) { ready 1 with ready := false }) = some (.refused [.notReady]) := by decide
theorem test_X3_busy :
    see (fun s => (s.verdict, s.seq)) (exec (.hostwrite []) { ready 1 with seq := .strobeHigh }) =
    some (.refused [.busy], .strobeHigh) := by decide
theorem test_X4_length : see (fun s => s.verdict) (exec (.render [0x31#8, 0x32#8] 3) (ready 1)) =
    some (.refused [.lengthExceedsBuffer]) := by decide
/-- Startup with N = 0: BadConfig, and every later transaction refused (R264). -/
theorem test_X5_bad_config :
    (fresh 0).verdict = .refused [.badConfig] ∧
      see (fun s => (s.verdict, s.seq)) (exec .setup { fresh 0 with ready := true }) =
        some (.refused [.badConfig, .notSetUp], .unconfigured) ∧
      see (fun s => s.verdict) (exec (.hostwrite []) { fresh 0 with ready := true }) = some (.refused [.notSetUp]) := by
  decide
theorem test_X6_equal_lines :
    (State.startup { n := 5, pinData := 8, pinClock := 8, pinStrobe := 6, pinOe := 4 } (testParams 5) testTable).verdict =
      .refused [.badConfig] := by decide
theorem test_X7_already_set_up : see (fun s => (s.verdict, s.bank.trace)) (exec .setup (ready 1)) =
    some (.refused [.alreadySetUp], []) := by decide
theorem test_lookup_blank : see (fun s => s.ret) (exec (.lookup 36) (fresh 1)) = some (.pattern 0x00#8) := by decide
theorem test_classify_follows_the_set :
    see (fun s => s.ret) (exec (.classify 0xA0#8) (fresh 1)) = some (.cls .unsupported) ∧
      see (fun s => s.ret) (exec (.classify 0xA0#8)
        { fresh 1 with par := { (fresh 1).par with whitespace := 0xA0#8 :: Config.whitespaceSet } }) =
      some (.cls (.idx 36)) := by decide

/-! ### The sequencer -/

theorem test_step_presents_a_render :
    see (fun s => (s.seq, s.len, s.verdict, s.host)) (step { ready 1 with host := [.present (.render [0x31#8] 1)] }) =
    some (.compute, 1, .accepted, []) := by decide
/-- A busy port answers, and the block makes its event all the same (vector X-3). -/
theorem test_step_goes_on_while_refusing :
    see (fun s => (s.seq, s.verdict, s.bank.trace))
      (step { ready 1 with seq := .strobeHigh, host := [.present (.hostwrite [])] }) =
    some (.strobeLow, .refused [.busy], [(.strobe, true)]) := by decide
theorem test_step_faults_off_the_frame : step { ready 1 with seq := .shift 1 0 .clkLow } = .fault .noFrameSlot := rfl
theorem test_compute_faults_off_the_buffer : step { ready 1 with seq := .compute, len := 1 } = .fault .noInputByte := rfl

/-! ### Witnesses: for each statement with hypotheses, a state and operands that meet them -/

/-- The three-digit machine with one byte to scan and a pending dot. -/
def mid : State := scanning 3 1 2 true

theorem mid_goes_on : mid.scan.count < mid.cfg.n ∧ 0 < mid.scan.i := by decide

theorem witness_EncodedByteDecodesBack :
    (Instr.unsupported 0x8A#8).wf = true ∧ encode (.unsupported 0x8A#8) = some [0x8A#8] := by decide
theorem witness_ClassIndexWithinTheTable : classify [] 0x89#8 = .idx 46 ∧ classify [0x89#8] 0x89#8 = .idx 36 := by decide
theorem witness_ByteMapOfTheDefaultSet :
    (0x85#8 ∉ Config.whitespaceSet) ∧ classify [0x85#8] 0x85#8 = .idx 36 ∧ classify [0x7A#8] 0x7A#8 = classify [] 0x7A#8 := by
  decide
theorem witness_LetterCasesShareAnEntry : 25 < 26 ∧ BitVec.ofNat 8 (0x41 + 25) = 0x5A#8 := by decide
theorem witness_DotByteSetsTheFlag :
    classify mid.par.whitespace 0x3A#8 = .dot ∧ mid.scan.count < mid.cfg.n ∧ 0 < mid.scan.i := by decide
theorem witness_UnsupportedByteKeepsTheFlag :
    classify mid.par.whitespace 0x00#8 = .unsupported ∧ mid.scan.count < mid.cfg.n ∧ 0 < mid.scan.i := by decide
theorem witness_SupportedByteEmits :
    classify mid.par.whitespace 0x20#8 = .idx 36 ∧ classify mid.par.whitespace 0x89#8 = .idx 46 ∧
      mid.scan.count < mid.cfg.n ∧ 0 < mid.scan.i := by decide
theorem witness_ByteAtTheStopHasNoEffect :
    (encode .digit0).isSome ∧ (scanning 1 1 1 false).cfg.n ≤ (scanning 1 1 1 false).scan.count ∧
      (scanning 1 0 0 false).scan.i = 0 := by decide
theorem witness_DotAndUnsupportedRowsRun :
    (mid.scan.count < mid.cfg.n ∧ 0 < mid.scan.i) ∧ (Instr.unsupported 0xFF#8).wf = true ∧ 0xFF#8 ∉ mid.par.whitespace := by
  decide
theorem witness_DigitRowsEmit :
    (mid.scan.count < mid.cfg.n ∧ 0 < mid.scan.i) ∧
      ([.digit0, .digit1, .digit2, .digit3, .digit4, .digit5, .digit6, .digit7, .digit8, .digit9] : List Instr)[9]? =
        some .digit9 := by decide
theorem witness_LetterRowsEmit :
    (mid.scan.count < mid.cfg.n ∧ 0 < mid.scan.i) ∧
      ([.lowerA, .lowerB, .lowerC, .lowerD, .lowerE, .lowerF, .lowerG, .lowerH, .lowerI, .lowerJ, .lowerK, .lowerL,
        .lowerM, .lowerN, .lowerO, .lowerP, .lowerQ, .lowerR, .lowerS, .lowerT, .lowerU, .lowerV, .lowerW, .lowerX,
        .lowerY, .lowerZ] : List Instr)[25]? = some .lowerZ ∧
      ([.upperA, .upperB] : List Instr)[0]? = some .upperA := by decide
theorem witness_WhitespaceRowsEmitBlank :
    (mid.scan.count < mid.cfg.n ∧ 0 < mid.scan.i) ∧ 0x0D#8 ∈ mid.par.whitespace ∧ 0x0D#8 ∉ ([] : List Byte) := by decide
theorem witness_GlyphRowsEmit :
    (mid.scan.count < mid.cfg.n ∧ 0 < mid.scan.i) ∧ encode .segTopLeft = some [BitVec.ofNat 8 (0x80 + 9)] ∧
      BitVec.ofNat 8 (0x80 + 9) ∉ mid.par.whitespace := by decide
theorem witness_LookupReturnsTheEntry : 46 ≤ 46 ∧ 46 < 47 := by decide
/-- No pattern for one digit, and one pattern for two; a length one beyond the buffer. -/
theorem witness_OperandsWithoutMeaningAreRefused :
    ([] : List Pattern).length ≠ (fresh 1).cfg.n ∧ [0x01#8].length ≠ (fresh 2).cfg.n ∧ [0x31#8].length < 2 := by decide
theorem witness_RisingClockShifts :
    mid.bank.shift.length = mid.par.chainBits ∧ mid.bank.lv.clock = false ∧ 23 < mid.par.chainBits ∧
      (see (fun _ => ()) (exec (.setline .clock true) mid)).isSome ∧
      ¬ (Line.strobe = .clock ∧ true = true ∧ mid.bank.lv.clock = false) ∧
      ¬ (Line.clock = .clock ∧ false = true ∧ mid.bank.lv.clock = false) ∧
      (see (fun _ => ()) (exec (.setline .clock false) mid)).isSome := by decide
theorem witness_RisingStrobeLatches :
    mid.bank.lv.strobe = false ∧ (see (fun _ => ()) (exec (.setline .strobe true) mid)).isSome ∧
      ¬ (Line.strobe = .strobe ∧ false = true ∧ mid.bank.lv.strobe = false) ∧
      (see (fun _ => ()) (exec (.setline .strobe false) mid)).isSome := by decide
theorem witness_SetLineDrivesAndRecords : (fresh 1).bank.lv.get .clock = false ∧ Line.data ≠ .clock := by decide
theorem witness_OtherEventsKeepTheChain :
    (see (fun _ => ()) (exec (.setline .oe true) mid)).isSome ∧ (see (fun _ => ()) (exec (.setline .clock false) mid)).isSome ∧
      (see (fun _ => ()) (exec (.setline .data true) mid)).isSome ∧
      (see (fun _ => ()) (exec (.setline .strobe false) mid)).isSome := by decide
theorem witness_SendByteSendsBitZeroFirst : mid.bank.shift.length = mid.par.chainBits := by decide
theorem witness_TransmitFrameSendsSlotsThenCommits :
    [0x01#8, 0x02#8, 0x03#8].length = mid.cfg.n ∧ ([] : List Pattern).length = (fresh 0).cfg.n := by decide
theorem witness_LevelsAfterATransmission :
    [0x01#8, 0x80#8].getLast? = some 0x80#8 ∧ (see (fun _ => ()) (exec (.transmitframe [0x01#8, 0x80#8]) (fresh 2))).isSome := by
  decide
theorem witness_EventsOfAFrameTransmission :
    see (fun s => s.bank.trace[2]?) (exec (.transmitframe [0x01#8]) (fresh 1)) = some (some (.clock, true)) := by decide
/-- A chain eight bits longer than the frame, with STROBE low and with STROBE high. -/
theorem witness_ChainHoldsTheFrame :
    let s : State := { fresh 1 with
      par := { testParams 1 with chainBits := 16 }
      bank := { (fresh 1).bank with shift := List.replicate 16 true, latch := List.replicate 16 false } }
    s.bank.shift.length = s.par.chainBits ∧ 8 * s.cfg.n ≤ s.par.chainBits ∧ s.bank.lv.strobe = false ∧
      see (fun t => t.bank.latch.drop 8) (exec (.transmitframe [0x00#8]) s) = some (List.replicate 8 true) ∧
      (see (fun _ => ()) (exec (.transmitframe [0x00#8])
        (s.withBank { s.bank with lv := { s.bank.lv with strobe := true } }))).isSome := by decide
theorem witness_RenderFrameYieldsNPatterns :
    (fresh 3).scan.frame.length = (fresh 3).cfg.n ∧ 1 ≤ [0x31#8].length ∧ 0 ≤ ([] : List Byte).length := by decide
theorem witness_FrameInTextTerms :
    (fresh 2).scan.frame.length = (fresh 2).cfg.n ∧ 3 ≤ [0x31#8, 0x2E#8, 0x32#8].length ∧
      textSlot testTable Config.whitespaceSet [0x31#8, 0x2E#8, 0x32#8] 3 0 = tt 2 ∧
      textSlot testTable Config.whitespaceSet [0x31#8, 0x2E#8, 0x32#8] 3 1 = (tt 1 ||| 0x01#8) ∧
      textSlot testTable Config.whitespaceSet [0x31#8, 0x2E#8, 0x32#8] 3 2 = 0x00#8 := by decide
/-- Two ready machines that differ in the level of CLOCK and in the bytes beyond the length. -/
theorem witness_RenderFrameIsPure :
    let s := ready 1
    let s' := s.withBank { s.bank with lv := { s.bank.lv with clock := true } }
    s.cfg = s'.cfg ∧ s.table = s'.table ∧ s.par.whitespace = s'.par.whitespace ∧ s.scan.frame.length = s.cfg.n ∧
      s'.scan.frame.length = s'.cfg.n ∧ [0x31#8, 0x32#8].take 1 = [0x31#8, 0x33#8].take 1 ∧ 1 ≤ s.cfg.n ∧
      s.seq = .idle ∧ s'.seq = .idle ∧ s.ready = true ∧ s'.ready = true ∧
      (see (fun _ => ()) (exec (.renderframe [0x31#8, 0x32#8] 1) s)).isSome ∧
      (see (fun _ => ()) (exec (.renderframe [0x31#8, 0x33#8] 1) s')).isSome ∧
      (see (fun _ => ()) (exec (.render [0x31#8, 0x32#8] 1) s)).isSome ∧
      (see (fun _ => ()) (exec (.render [0x31#8, 0x33#8] 1) s')).isSome := by decide
/-- With one digit, the scan of the two bytes stops at position 1: the byte at 0 may differ. -/
theorem witness_UnreadBytesHaveNoEffect :
    see (fun t => t.scan.i) (exec (.renderframe [0x31#8, 0x32#8] 2) (fresh 1)) = some 1 ∧
      2 ≤ [0x39#8, 0x32#8].length ∧ [0x39#8, 0x32#8][1]? = [0x31#8, 0x32#8][1]? := by decide
theorem witness_RenderRunsToCompletion :
    (ready 3).seq = .idle ∧ (ready 3).ready = true ∧ 1 ≤ [0x31#8].length ∧ (ready 3).scan.frame.length = (ready 3).cfg.n := by
  decide
theorem witness_HostWriteTruncatesThenStrips :
    (ready 1).seq = .idle ∧ (ready 1).ready = true ∧ (ready 1).par.stripCrlf = true ∧
      hostLength (ready 1).cfg (ready 1).par [0x31#8, 0x0A#8, 0x32#8] = 1 ∧
      hostLength (ready 1).cfg { (ready 1).par with stripCrlf := false } [0x31#8, 0x0A#8, 0x32#8] = 2 := by decide
theorem witness_TransactionMakesOneCommit :
    (ready 2).seq = .idle ∧ (ready 2).ready = true ∧ (ready 2).scan.frame.length = (ready 2).cfg.n ∧
      0 ≤ ([] : List Byte).length ∧
      (see (fun _ => ()) (exec (.hostwrite [0x31#8]) (ready 2))).isSome := by decide
theorem witness_SetupDrivesOeOnce :
    let s : State := { fresh 1 with ready := true }
    1 ≤ s.cfg.n ∧ [s.cfg.pinData, s.cfg.pinClock, s.cfg.pinStrobe, s.cfg.pinOe].Nodup ∧ s.ready = true ∧
      s.seq = .unconfigured := by decide
theorem witness_SetupRefusalsLeaveTheState :
    (fresh 0).cfg.n = 0 ∧ (fresh 0).configRefused = true ∧ (fresh 0).seq = .unconfigured ∧
      (see (fun _ => ()) (step { fresh 0 with host := [.present .setup] })).isSome ∧
      ({ fresh 0 with configRefused := false } : State).configRefused = false ∧ ¬ [9, 9, 6, 4].Nodup ∧
      (fresh 1).cfg.valid = true ∧ (fresh 1).ready = false ∧
      (ready 1).cfg.valid = true ∧ (ready 1).ready = true ∧ (ready 1).seq ≠ .unconfigured := by decide
theorem witness_RenderRefusalsLeaveTheState :
    (fresh 1).seq = .unconfigured ∧ ({ ready 1 with ready := false } : State).seq ≠ .unconfigured ∧
      (scanning 1 0 0 false).ready = true ∧ (scanning 1 0 0 false).seq ≠ .idle ∧ (ready 1).seq = .idle ∧
      [0x31#8, 0x32#8].length < 3 := by decide
/-- A state in the byte-by-byte view with the byte 0x35 next. -/
theorem witness_StepRunsTheDecodedByte :
    let s : State := { mid with byteGrain := true }
    s.seq = .compute ∧ s.byteGrain = true ∧ s.scan.count < s.cfg.n ∧ 0 < s.scan.i ∧
      s.input.read (s.scan.i - 1) = some 0x35#8 ∧ decodeByte 0x35#8 = .digit5 := by decide
/-- Each row of the table at a boundary: the first bit, the last bit of a slot, the last bit of the frame, and the pulse. -/
theorem witness_SequencerFollowsItsTable :
    let s : State := { ready 2 with scan := { (ready 2).scan with frame := [0x80#8, 0x01#8] } }
    s.host = [] ∧ s.scan.frame.length = s.cfg.n ∧ s.scan.frame[0]? = some 0x80#8 ∧ s.scan.frame[1]? = some 0x01#8 ∧
      see (fun t => t.seq) (step (s.withSeq .compute)) = some (.shift 0 0 .clkLow) ∧
      see (fun t => t.seq) (step (s.withSeq (.shift 0 6 .clkHigh))) = some (.shift 0 7 .clkLow) ∧
      see (fun t => t.seq) (step (s.withSeq (.shift 0 7 .clkHigh))) = some (.shift 1 0 .clkLow) ∧
      see (fun t => t.seq) (step (s.withSeq (.shift 1 7 .clkHigh))) = some .strobeHigh ∧
      see (fun t => t.seq) (step (s.withSeq .strobeHigh)) = some .strobeLow ∧
      see (fun t => t.seq) (step (s.withSeq .strobeLow)) = some .idle := by decide
theorem witness_SequencerRunsTheTransmission :
    mid.seq = .compute ∧ mid.byteGrain = false ∧ mid.host = [] ∧ 1 ≤ mid.cfg.n ∧ mid.len ≤ mid.input.size ∧
      mid.scan.frame.length = mid.cfg.n := by decide
/-- A Render and a HostWrite on the idle block, a Setup after startup, a Render too long for its buffer, and a HostWrite in
flight. -/
theorem witness_PresentedRenderEqualsExec :
    let s : State := { ready 1 with host := [.present (.render [0x31#8] 1)] }
    (s.seq = .idle ∧ s.ready = true ∧ s.byteGrain = false ∧ s.host = [.present (.render [0x31#8] 1)] ∧ 1 ≤ s.cfg.n ∧
      1 ≤ [0x31#8].length ∧ s.scan.frame.length = s.cfg.n) ∧
    ({ ready 1 with host := [.present (.hostwrite [0x31#8, 0x0A#8])] } : State).seq = .idle ∧
    ({ fresh 1 with host := [.present .setup] } : State).busy = false ∧
    ((ready 1).busy = false ∧ [0x31#8].length < 2) ∧
    ({ ready 1 with seq := .strobeHigh, host := [.present (.hostwrite [])] } : State).busy = true := by decide
/-- The port truncates before it strips (R163), as exec does. -/
theorem test_port_truncates_and_strips :
    see (fun s => (s.seq, s.len)) (step { ready 1 with host := [.present (.hostwrite [0x31#8, 0x0A#8, 0x32#8])] }) =
      some (.compute, 1) := by decide
theorem mid_inv : mid.Inv where
  memory := by decide
  length := by decide
  emitted := by decide
  frame := by decide
  shiftBits := by decide
  latchBits := by decide
  entries := by decide
  position := by decide
  slot := fun _ _ _ h => by cases h
  configured := fun _ => by decide
  startup := by decide
theorem witness_HostCannotDisturbATransmission :
    mid.Inv ∧ mid.seq = .compute ∧ mid.byteGrain = false ∧ 24 * mid.cfg.n + 3 ≤ 75 := ⟨mid_inv, by decide, by decide, by decide⟩
theorem witness_ByteByByteComputeAgrees :
    let s : State := { scanning 2 1 0 false with byteGrain := true }
    s.seq = .compute ∧ s.byteGrain = true ∧ s.len ≤ s.input.size ∧ s.scan.i = s.len ∧ s.scan.dot = false ∧
      s.scan.count = 0 := by decide
theorem witness_LatchChangesOnceAtTheCommit :
    mid.Inv ∧ mid.bank.lv.strobe = false ∧ mid.par.chainBits = 8 * mid.cfg.n ∧ (see (fun _ => ()) (step mid)).isSome :=
  ⟨mid_inv, by decide, by decide, by decide⟩
theorem witness_StepMakesAtMostOneEvent :
    (see (fun _ => ()) (step mid)).isSome ∧ (see (fun _ => ()) (step { mid with seq := .strobeHigh })).isSome ∧
      ({ mid with seq := .strobeHigh } : State).busy = true := by decide
theorem witness_ConfigurationNeverChanges :
    (see (fun _ => ()) (exec .commit mid)).isSome ∧ (see (fun _ => ()) (step mid)).isSome := by decide
/-- A store at the last byte, and one just past the buffer. -/
theorem witness_BufferReadsBack :
    let s : State := { ready 1 with input := Memory.load [0x31#8, 0x32#8], host := [.store 1 0x00#8] }
    s.input.wf = true ∧ s.seq ≠ .compute ∧ s.host = [.store 1 0x00#8] ∧
      see (fun t => (t.input.read 1, t.input.read 0)) (step s) = some (some 0x00#8, some 0x31#8) ∧
      see (fun t => t.input.read 2) (step { s with host := [.store 2 0x55#8] }) = some none := by decide
theorem witness_StepKeepsTheInvariant : mid.Inv ∧ (see (fun _ => ()) (step mid)).isSome := ⟨mid_inv, by decide⟩
theorem witness_InvariantStatesStepOn : mid.Inv := mid_inv
theorem witness_InstructionsKeepTheShape : mid.Shape ∧ (see (fun _ => ()) (exec .digit5 mid)).isSome :=
  ⟨mid_inv.toShape, by decide⟩
theorem witness_StrobeStaysQuiet : mid.StrobeQuiet ∧ (see (fun _ => ()) (step mid)).isSome := ⟨fun _ => by decide, by decide⟩
theorem witness_OeStaysDrivenOnce :
    (fresh 1).OeDrivenOnce ∧ (see (fun _ => ()) (step { fresh 1 with host := [.ready true] })).isSome :=
  ⟨⟨fun _ => by decide, fun h => absurd rfl h⟩, by decide⟩
theorem witness_LevelsKeepFollowingTheTrace :
    (fresh 1).LevelsFollowTrace ∧ (see (fun _ => ()) (exec (.sendbit true) (fresh 1))).isSome :=
  ⟨fun _ _ h => (by cases h), by decide⟩
theorem witness_OutputsGatedByOe :
    (fresh 1).bank.lv.oe = (fresh 1).par.oeActiveLevel ∧
      ({ fresh 1 with bank := { (fresh 1).bank with lv := { (fresh 1).bank.lv with oe := true } } } : State).bank.lv.oe ≠
        (fresh 1).par.oeActiveLevel := by decide

end Sys2Proof.Tests
end

section
/-! PROOFS. The PatternTable and the PatternEncoder (41_encoder.md): what LOOKUP and CLASSIFY answer. -/

namespace Sys2Proof.Machine

/-! ### LOOKUP -/

theorem exec_lookup_of_le {k : Nat} (hk : k ≤ 46) (s : State) :
    exec (.lookup k) s = .next (s.withRet (.pattern (lookup s.table k))) := if_pos hk

theorem exec_lookup_of_gt {k : Nat} (hk : 46 < k) (s : State) : exec (.lookup k) s = .refused .lookupIndex :=
  if_neg (Nat.not_le.mpr hk)

/-- Settles O17: an index of the table gives its entry, and any other index is refused. -/
theorem lookupReturnsTheEntry : Obligations.LookupReturnsTheEntry := by
  intro s k
  constructor
  · intro hk
    exact exec_lookup_of_le hk s
  · intro hk
    exact exec_lookup_of_gt hk s

/-! ### CLASSIFY -/

theorem exec_classify (c : Byte) (s : State) :
    exec (.classify c) s = .next (s.withRet (.cls (classify s.par.whitespace c))) := rfl

/-- The first test of R114, on the number of the byte. -/
theorem dotByte_iff_toNat (c : Byte) : (c = 0x2E#8 ∨ c = 0x3A#8) ↔ (c.toNat = 0x2E ∨ c.toNat = 0x3A) :=
  or_congr BitVec.toNat_inj.symm BitVec.toNat_inj.symm

/-- The range tests of R114, on the number of the byte. -/
theorem byteBetween_iff_toNat (lo hi c : Byte) : (lo ≤ c ∧ c ≤ hi) ↔ (lo.toNat ≤ c.toNat ∧ c.toNat ≤ hi.toNat) :=
  and_congr BitVec.le_def BitVec.le_def

/-- The seven tests of R114 in their order, on the number of the byte. -/
theorem classify_eq_toNat (ws : List Byte) (c : Byte) :
    classify ws c =
      if c.toNat = 0x2E ∨ c.toNat = 0x3A then .dot
      else if 0x30 ≤ c.toNat ∧ c.toNat ≤ 0x39 then .idx (c.toNat - 0x30)
      else if 0x61 ≤ c.toNat ∧ c.toNat ≤ 0x7A then .idx (c.toNat - 0x61 + 10)
      else if 0x41 ≤ c.toNat ∧ c.toNat ≤ 0x5A then .idx (c.toNat - 0x41 + 10)
      else if c ∈ ws then .idx 36
      else if 0x80 ≤ c.toNat ∧ c.toNat ≤ 0x89 then .idx (37 + (c.toNat - 0x80))
      else .unsupported := by
  simp only [classify, whitespaceOr, dotByte_iff_toNat, byteBetween_iff_toNat, BitVec.reduceToNat]

/-- Settles O4: only `ret` is written, and the class in it is that of the first test that holds. -/
theorem classifyFollowsThePrecedence : Obligations.ClassifyFollowsThePrecedence := by
  intro s c
  rw [exec_classify, classify_eq_toNat]
  rfl

end Sys2Proof.Machine
end

section
/-! PROOFS. The bytes in the scan (42_renderer.md, R153 to R155): what a byte does while the scan goes on. -/

namespace Sys2Proof.Machine

/-! ### The step of the scan, by the class of its byte -/

theorem Scan.step_of_dot (table : List Pattern) (r : Scan) :
    r.step table .dot = { r with i := r.i - 1, dot := true } := rfl

theorem Scan.step_of_unsupported (table : List Pattern) (r : Scan) :
    r.step table .unsupported = { r with i := r.i - 1 } := rfl

theorem Scan.step_of_idx (table : List Pattern) (k : Nat) (r : Scan) :
    r.step table (.idx k) =
      { i := r.i - 1
        dot := false
        count := r.count + 1
        frame := r.frame.set r.count (lookup table k ||| dotMask r.dot) } := rfl

/-! ### A byte while the scan goes on -/

theorem Scan.goesOn_iff {n : Nat} {r : Scan} : r.goesOn n = true ↔ r.count < n ∧ 0 < r.i := by
  simp [Scan.goesOn]

theorem State.scanStep_of_goesOn {s : State} (hg : s.scan.goesOn s.cfg.n = true) (cls : ByteClass) :
    s.scanStep cls = s.withScan (s.scan.step s.table cls) := by
  rw [State.scanStep_eq, if_pos hg]

/-- While the scan goes on (R156), a byte makes the step of its class. -/
theorem exec_decodeByte_of_class {s : State} {c : Byte} {cls : ByteClass} (hcls : classify s.par.whitespace c = cls)
    (hc : s.scan.count < s.cfg.n) (hi : 0 < s.scan.i) :
    exec (decodeByte c) s = .next (s.withScan (s.scan.step s.table cls)) := by
  rw [exec_decodeByte, hcls, State.scanStep_of_goesOn (Scan.goesOn_iff.mpr ⟨hc, hi⟩)]

/-- Settles O8: the byte makes the DOT step (R153). -/
theorem dotByteSetsTheFlag : Obligations.DotByteSetsTheFlag := by
  intro s c hcls hc hi
  rw [exec_decodeByte_of_class hcls hc hi, Scan.step_of_dot]
  rfl

/-- Settles O9: the byte makes the UNSUPPORTED step (R154). -/
theorem unsupportedByteKeepsTheFlag : Obligations.UnsupportedByteKeepsTheFlag := by
  intro s c hcls hc hi
  rw [exec_decodeByte_of_class hcls hc hi, Scan.step_of_unsupported]
  rfl

/-- Settles O10: the byte makes the EMIT step (R155), with entry 36 of the table blank (R111). -/
theorem supportedByteEmits : Obligations.SupportedByteEmits := by
  intro s c k hcls hc hi
  rw [exec_decodeByte_of_class hcls hc hi, Scan.step_of_idx]
  rfl

end Sys2Proof.Machine
end

section
/-! PROOFS. HostWrite (42_renderer.md, R160 to R163): truncation, then stripping, then Render. -/

namespace Sys2Proof.Machine

/-! ### Truncation -/

theorem truncatedLength_le (truncate : Bool) (n len : Nat) : truncatedLength truncate n len ≤ len := by
  cases truncate with
  | false => exact Nat.le_refl len
  | true => exact Nat.min_le_left len (2 * n)

/-! ### Stripping -/

/-- The byte at `q` is one that stripping drops: LF or CR (R162). -/
def LineEndAt (buf : List Byte) (q : Nat) : Prop := buf[q]? = some 0x0A#8 ∨ buf[q]? = some 0x0D#8

theorem strippedLength_succ_of_lineEnd {buf : List Byte} {m : Nat} (h : LineEndAt buf m) :
    strippedLength buf (m + 1) = strippedLength buf m := by
  rcases h with h | h <;> simp [strippedLength, h]

theorem strippedLength_succ_of_not_lineEnd {buf : List Byte} {m : Nat} (h : ¬ LineEndAt buf m) :
    strippedLength buf (m + 1) = m + 1 := by
  unfold strippedLength
  cases hb : buf[m]? with
  | none => rfl
  | some c => exact if_neg fun hc => h (by simpa [LineEndAt, hb] using hc)

theorem strippedLength_le (buf : List Byte) (m : Nat) : strippedLength buf m ≤ m := by
  induction m with
  | zero => exact Nat.le_refl 0
  | succ m ih =>
    by_cases h : LineEndAt buf m
    · rw [strippedLength_succ_of_lineEnd h]; omega
    · rw [strippedLength_succ_of_not_lineEnd h]

/-- Stripping drops line ends only. -/
theorem lineEndAt_of_strippedLength_le {buf : List Byte} {m q : Nat} (hq : strippedLength buf m ≤ q) (hm : q < m) :
    LineEndAt buf q := by
  induction m with
  | zero => omega
  | succ m ih =>
    by_cases h : LineEndAt buf m
    · rw [strippedLength_succ_of_lineEnd h] at hq
      rcases Nat.lt_succ_iff_lt_or_eq.mp hm with hlt | rfl
      · exact ih hq hlt
      · exact h
    · rw [strippedLength_succ_of_not_lineEnd h] at hq; omega

/-- Stripping drops every trailing line end: the last byte that it keeps is none. -/
theorem not_lineEndAt_before_strippedLength {buf : List Byte} {m : Nat} (hpos : 0 < strippedLength buf m) :
    ¬ LineEndAt buf (strippedLength buf m - 1) := by
  induction m with
  | zero => exact absurd hpos (Nat.lt_irrefl 0)
  | succ m ih =>
    by_cases h : LineEndAt buf m
    · rw [strippedLength_succ_of_lineEnd h] at hpos ⊢
      exact ih hpos
    · rw [strippedLength_succ_of_not_lineEnd h]
      exact h

/-! ### The length that HostWrite hands to Render -/

theorem hostLength_of_keep {par : Params} (h : par.stripCrlf = false) (cfg : Cfg) (buf : List Byte) :
    hostLength cfg par buf = truncatedLength par.truncate cfg.n buf.length := by
  simp [hostLength, h]

theorem hostLength_of_strip {par : Params} (h : par.stripCrlf = true) (cfg : Cfg) (buf : List Byte) :
    hostLength cfg par buf = strippedLength buf (truncatedLength par.truncate cfg.n buf.length) := by
  simp [hostLength, h]

theorem hostLength_le_truncatedLength (cfg : Cfg) (par : Params) (buf : List Byte) :
    hostLength cfg par buf ≤ truncatedLength par.truncate cfg.n buf.length := by
  cases h : par.stripCrlf with
  | false => exact (hostLength_of_keep h cfg buf).le
  | true => exact (hostLength_of_strip h cfg buf).trans_le (strippedLength_le buf _)

theorem hostLength_le_length (cfg : Cfg) (par : Params) (buf : List Byte) : hostLength cfg par buf ≤ buf.length :=
  (hostLength_le_truncatedLength cfg par buf).trans (truncatedLength_le _ _ _)

/-! ### HOSTWRITE as a RENDER -/

theorem exec_render (buf : List Byte) (len : Nat) (s : State) :
    exec (.render buf len) s = .next (s.runRender buf len) := rfl

/-- HostWrite is Render of the bytes that truncation and stripping keep (R160). -/
theorem exec_hostwrite (buf : List Byte) (s : State) :
    exec (.hostwrite buf) s = exec (.render buf (hostLength s.cfg s.par buf)) s := rfl

/-- The length is within the buffer, so an idle READY block has no reason left to refuse (R150). -/
theorem exec_hostwrite_accepted {s : State} (hs : s.seq = .idle) (hr : s.ready = true) (buf : List Byte) :
    exec (.hostwrite buf) s = .next (s.accept buf (hostLength s.cfg s.par buf)).complete := by
  rw [exec_hostwrite, exec_render, State.runRender_accepted hs hr (hostLength_le_length s.cfg s.par buf)]

/-- Settles O36: `m` is `hostLength` and `lim` the truncated length; what stripping drops and keeps is the two lemmas on
`strippedLength`. -/
theorem hostWriteTruncatesThenStrips : Obligations.HostWriteTruncatesThenStrips := by
  intro s buf
  refine ⟨hostLength s.cfg s.par buf, truncatedLength s.par.truncate s.cfg.n buf.length, rfl,
    hostLength_le_truncatedLength s.cfg s.par buf, fun hkeep => hostLength_of_keep hkeep s.cfg buf, fun hstrip => ?_,
    exec_hostwrite buf s, fun hs hr => ?_⟩
  · rw [hostLength_of_strip hstrip]
    exact ⟨fun _ hq hlim => lineEndAt_of_strippedLength_le hq hlim,
      fun hpos => not_or.mp (not_lineEndAt_before_strippedLength hpos)⟩
  · refine ⟨_, exec_hostwrite_accepted hs hr buf, ?_⟩
    rw [State.complete_accept]
    exact ⟨rfl, rfl, rfl⟩

end Sys2Proof.Machine
end

section
/-! PROOFS. TRANSMITFRAME (43_transmitter.md, R193): the events of a frame, slot after slot and bit after bit, then the commit. -/

namespace Sys2Proof.Machine

/-! ### What a transmission records, whatever the chain holds -/

/-- Bits sent one after the other are recorded as their bit cells, in order. -/
theorem Bank.sendBits_trace (cb : Nat) (bits : List Bool) (b : Bank) :
    (b.sendBits cb bits).trace = b.trace ++ bits.flatMap bitCell := by
  induction bits generalizing b with
  | nil => exact (List.append_nil b.trace).symm
  | cons v bits ih =>
    calc (b.sendBits cb (v :: bits)).trace
        = ((b.sendBit cb v).sendBits cb bits).trace := rfl
      _ = (b.trace ++ bitCell v) ++ bits.flatMap bitCell := by rw [ih, Bank.sendBit_eq]
      _ = b.trace ++ (v :: bits).flatMap bitCell := by rw [List.append_assoc, List.flatMap_cons]

/-- The bit cells of the serial stream (R56) are those of the frame's bytes (R89). -/
theorem stream_flatMap_bitCell (f : List Pattern) : (stream f).flatMap bitCell = f.flatMap byteEvents :=
  List.flatMap_assoc

theorem Bank.transmit_trace (cb : Nat) (f : List Pattern) (b : Bank) :
    (b.transmit cb f).trace = b.trace ++ frameEvents f := by
  rw [Bank.transmit, foldl_sendByte_eq_sendBits, Bank.commit_eq, Bank.sendBits_trace, stream_flatMap_bitCell, frameEvents,
    List.append_assoc]

/-! ### The events of a frame, written out -/

theorem byteEvents_eq (p : Pattern) :
    byteEvents p =
      (List.range 8).flatMap fun k => [(Line.clock, false), (Line.data, p.getLsbD k), (Line.clock, true)] :=
  List.flatMap_map _ _ _

theorem frameEvents_eq (f : List Pattern) :
    frameEvents f =
      (f.flatMap fun p => (List.range 8).flatMap fun k =>
        [(Line.clock, false), (Line.data, p.getLsbD k), (Line.clock, true)]) ++
      [(Line.strobe, true), (Line.strobe, false)] := by
  rw [frameEvents, funext byteEvents_eq, commitEvents]

/-! ### TRANSMITFRAME -/

theorem exec_transmitframe_of_length {f : List Pattern} {s : State} (hf : f.length = s.cfg.n) :
    exec (.transmitframe f) s = .next (s.withBank (s.bank.transmit s.par.chainBits f)) := if_pos hf

/-- Settles O27: the line side becomes that of `Bank.transmit`, which appends the events of the frame to the trace. -/
theorem transmitFrameSendsSlotsThenCommits : Obligations.TransmitFrameSendsSlotsThenCommits := by
  intro s f hf
  refine ⟨s.bank.transmit s.par.chainBits f, exec_transmitframe_of_length hf, ?_, ?_⟩
  · rw [Bank.transmit_trace, frameEvents_eq, List.append_assoc]
  · rw [Bank.transmit_trace, List.length_append, frameEvents_length, hf]

end Sys2Proof.Machine
end

section
/-! PROOFS. The DigitalOutputBank and the downstream chain (44_output_bank.md): what one SetLine drives, records, shifts and
latches (R231, R240 to R242), and what the chain's outputs show (R243). -/

namespace Sys2Proof.Machine

/-! ### Edges -/

theorem Lines.rises_iff (lv : Lines) (l : Line) (v : Bool) : lv.rises l v = true ↔ v = true ∧ lv.get l = false := by
  simp [Lines.rises]

/-- A SetLine makes a rising edge of line `k` exactly when it drives `k` to 1 while `k` holds 0 (R60). -/
theorem Lines.line_rises_iff (lv : Lines) (k l : Line) (v : Bool) :
    (l = k ∧ lv.rises l v = true) ↔ (l = k ∧ v = true ∧ lv.get k = false) := by
  rw [Lines.rises_iff]
  exact and_congr_right fun hl => by rw [hl]

/-! ### The chain's two stages under one event -/

section Chain
variable {cb : Nat} {l : Line} {v : Bool} {b : Bank}

theorem Bank.setLine_shift_of_clock_rise (h : b.lv.clock = false) :
    (b.setLine cb .clock true).shift = (b.lv.data :: b.shift).take cb := by
  rw [Bank.setLine_shift, if_pos ((Lines.line_rises_iff b.lv .clock .clock true).mpr ⟨rfl, rfl, h⟩)]

theorem Bank.setLine_shift_of_no_clock_rise (h : ¬ (l = .clock ∧ v = true ∧ b.lv.clock = false)) :
    (b.setLine cb l v).shift = b.shift := by
  rw [Bank.setLine_shift, if_neg (mt (Lines.line_rises_iff b.lv .clock l v).mp h)]

theorem Bank.setLine_latch_of_strobe_rise (h : b.lv.strobe = false) :
    (b.setLine cb .strobe true).latch = b.shift := by
  rw [Bank.setLine_latch, if_pos ((Lines.line_rises_iff b.lv .strobe .strobe true).mpr ⟨rfl, rfl, h⟩)]

theorem Bank.setLine_latch_of_no_strobe_rise (h : ¬ (l = .strobe ∧ v = true ∧ b.lv.strobe = false)) :
    (b.setLine cb l v).latch = b.latch := by
  rw [Bank.setLine_latch, if_neg (mt (Lines.line_rises_iff b.lv .strobe l v).mp h)]

end Chain

/-! ### SETLINE on the machine -/

@[simp] theorem State.setLine_bank (s : State) (l : Line) (v : Bool) :
    (s.setLine l v).bank = s.bank.setLine s.par.chainBits l v := rfl

/-- The event reaches the platform's line of that identifier in CFG (R231). -/
theorem State.setLine_pinTrace (s : State) (l : Line) (v : Bool) :
    (s.setLine l v).pinTrace = s.pinTrace ++ [(s.cfg.pin l, v)] :=
  List.map_append

theorem eq_setLine_of_exec_setline {s t : State} {l : Line} {v : Bool} (h : exec (.setline l v) s = .next t) :
    t = s.setLine l v :=
  (Host.Outcome.next.inj h).symm

/-- Settles O19: a line driven to the level it holds makes no edge (R60), so neither stage moves. -/
theorem setLineDrivesAndRecords : Obligations.SetLineDrivesAndRecords := by
  intro s l v
  refine ⟨s.bank.lv.set l v, (s.setLine l v).bank.shift, (s.setLine l v).bank.latch, s.setLine l v,
    exec_setline l v s, rfl, ?level, ?others, s.setLine_pinTrace l v, ?noEdge⟩
  case level => exact Lines.get_set_same s.bank.lv l v
  case others => exact fun l' hl' => Lines.get_set_other s.bank.lv v hl'
  case noEdge =>
    rintro rfl
    rw [State.setLine_bank, Bank.setLine_same_level]
    exact ⟨rfl, rfl⟩

/-- Settles O20: the rising CLOCK puts DATA before S and drops what the chain no longer holds; the other events are no
rising CLOCK. -/
theorem risingClockShifts : Obligations.RisingClockShifts := by
  refine ⟨fun s t hlen hclk hex => ?rise, fun s t l v hno hex => ?noRise⟩
  case rise =>
    obtain rfl := eq_setLine_of_exec_setline hex
    refine ⟨Bank.setLine_shift_length _ _ _ _ hlen, fun hpos => ?_, fun q hq hqn => ?_⟩ <;>
      rw [State.setLine_bank, Bank.setLine_shift_of_clock_rise hclk]
    · rw [List.getElem?_take_of_lt hpos, List.getElem?_cons_zero]
    · rw [List.getElem?_take_of_lt hqn, List.getElem?_cons, if_neg hq.ne']
  case noRise =>
    obtain rfl := eq_setLine_of_exec_setline hex
    exact Bank.setLine_shift_of_no_clock_rise hno

/-- Settles O21: the rising STROBE takes S as it was; the other events are no rising STROBE. -/
theorem risingStrobeLatches : Obligations.RisingStrobeLatches := by
  refine ⟨fun s t hstr hex => ?rise, fun s t l v hno hex => ?noRise⟩
  case rise =>
    obtain rfl := eq_setLine_of_exec_setline hex
    exact Bank.setLine_latch_of_strobe_rise hstr
  case noRise =>
    obtain rfl := eq_setLine_of_exec_setline hex
    exact Bank.setLine_latch_of_no_strobe_rise hno

/-- Settles O22: none of the events listed in R242 is a rising CLOCK or a rising STROBE. -/
theorem otherEventsKeepTheChain : Obligations.OtherEventsKeepTheChain := by
  intro s t l v hex hother
  obtain rfl := eq_setLine_of_exec_setline hex
  have hclk : ¬ (l = .clock ∧ v = true ∧ s.bank.lv.clock = false) := by
    rintro ⟨rfl, rfl, hlow⟩
    simp [hlow] at hother
  have hstr : ¬ (l = .strobe ∧ v = true ∧ s.bank.lv.strobe = false) := by
    rintro ⟨rfl, rfl, hlow⟩
    simp [hlow] at hother
  exact ⟨Bank.setLine_shift_of_no_clock_rise hclk, Bank.setLine_latch_of_no_strobe_rise hstr⟩

/-! ### What the outputs show -/

theorem State.outputs_of_enabled {s : State} (h : s.bank.lv.oe = s.par.oeActiveLevel) :
    s.outputs = some s.bank.latch := if_pos h

theorem State.outputs_of_disabled {s : State} (h : s.bank.lv.oe ≠ s.par.oeActiveLevel) : s.outputs = none := if_neg h

/-- Disabled outputs light nothing at any latch position, whatever the wiring and the digit map are. -/
theorem State.lights_of_outputs_none {s : State} (h : s.outputs = none) (d : Nat) (x : Light) (q : Nat) :
    s.lights d x q = false := by
  rw [State.lights, h, Bool.and_false]

theorem State.lit_of_outputs_none {s : State} (h : s.outputs = none) (d : Nat) (x : Light) : s.lit d x = false :=
  List.any_eq_false.mpr fun q _ => by rw [State.lights_of_outputs_none h]; exact Bool.false_ne_true

/-- Settles O60: OE gates the outputs, and with no outputs no light is lit. -/
theorem outputsGatedByOe : Obligations.OutputsGatedByOe := by
  intro s
  refine ⟨State.outputs_of_enabled, fun hoff => ?_⟩
  have hnone := State.outputs_of_disabled hoff
  exact ⟨hnone, State.lit_of_outputs_none hnone⟩

end Sys2Proof.Machine
end

section
/-! PROOFS. The input byte code space (30_encoding.md): the rows of the byte table, the decoder against the encoder, and the
byte map. -/

namespace Sys2Proof

/-! ### Looking a byte up in the rows -/

/-- A row that is found stands in the table, under that byte. -/
theorem mem_of_rowOf_eq_some {rows : List (Byte × Instr)} {c : Byte} {i : Instr} (h : rowOf rows c = some i) :
    (c, i) ∈ rows := by
  induction rows with
  | nil => cases h
  | cons row rows ih =>
    obtain ⟨b, j⟩ := row
    rw [rowOf] at h
    split at h
    case isTrue hb =>
      obtain rfl := Option.some.inj h
      exact hb ▸ List.mem_cons_self
    case isFalse => exact List.mem_cons_of_mem _ (ih h)

/-- A byte that no row has is not found. -/
theorem rowOf_eq_none {rows : List (Byte × Instr)} {c : Byte} (h : ∀ row ∈ rows, row.1 ≠ c) : rowOf rows c = none := by
  induction rows with
  | nil => rfl
  | cons row rows ih =>
    obtain ⟨hrow, hrows⟩ := List.forall_mem_cons.mp h
    rw [rowOf, if_neg hrow, ih hrows]

/-! ### The byte table -/

/-- The rows stand outside the UNSUPPORTED ranges of R83, and each holds a well-formed instruction under its own byte. -/
theorem byteTable_rows :
    ∀ row ∈ byteTable, isUnsupportedByte row.1 = false ∧ row.2.wf = true ∧ encodeByte row.2 = some row.1 := by decide

theorem decodeByte_of_isUnsupportedByte {c : Byte} (h : isUnsupportedByte c = true) : decodeByte c = .unsupported c := by
  have hnone : rowOf byteTable c = none := rowOf_eq_none fun row hrow hc => by
    rw [← hc, (byteTable_rows row hrow).1] at h
    exact Bool.false_ne_true h
  rw [decodeByte, hnone, Option.getD_none]

/-- The rows take every byte outside the UNSUPPORTED ranges (R83). -/
theorem isUnsupportedByte_of_rowOf_eq_none : ∀ c : Byte, rowOf byteTable c = none → isUnsupportedByte c = true := by
  refine Machine.forall_byte fun n hn => ?_
  interval_cases n <;> decide

/-! ### The decoder against the encoder -/

theorem decodeByte_of_encodeByte {i : Instr} {b : Byte} (hwf : i.wf = true) (h : encodeByte i = some b) :
    decodeByte b = i := by
  cases i
  case unsupported c =>
    obtain rfl := Option.some.inj h
    exact decodeByte_of_isUnsupportedByte hwf
  case setup | render | hostwrite | renderframe | lookup | classify | sendbit | sendbyte | commit | transmitframe | setline =>
    exact nomatch h
  all_goals exact Option.some.inj h ▸ rfl

/-- A decoded byte is well-formed, and its encoding is that byte. -/
theorem decodeByte_wf_encodeByte (c : Byte) : (decodeByte c).wf = true ∧ encodeByte (decodeByte c) = some c := by
  rw [decodeByte]
  cases hrow : rowOf byteTable c with
  | none => exact ⟨isUnsupportedByte_of_rowOf_eq_none c hrow, rfl⟩
  | some i => exact (byteTable_rows (c, i) (mem_of_rowOf_eq_some hrow)).2

theorem encode_eq_some_iff {i : Instr} {w : List Byte} : encode i = some w ↔ ∃ b, encodeByte i = some b ∧ [b] = w :=
  Option.map_eq_some_iff

theorem encode_of_encodeByte {i : Instr} {b : Byte} (h : encodeByte i = some b) : encode i = some [b] :=
  encode_eq_some_iff.mpr ⟨b, h, rfl⟩

theorem decode_cons (c : Byte) (rest : List Byte) : decode (c :: rest) = .ok (decodeByte c, rest) := rfl

/-- Settles O1: an encoding is one byte, and that byte decodes to the instruction. -/
theorem encodedByteDecodesBack : Obligations.EncodedByteDecodesBack := by
  intro i w rest hwf henc
  obtain ⟨b, hb, rfl⟩ := encode_eq_some_iff.mp henc
  rw [List.singleton_append, decode_cons, decodeByte_of_encodeByte hwf hb]

/-- Settles O2. -/
theorem everyByteDecodesAndEncodes : Obligations.EveryByteDecodesAndEncodes := by
  intro c rest
  obtain ⟨hwf, henc⟩ := decodeByte_wf_encodeByte c
  exact ⟨decodeByte c, decode_cons c rest, hwf, encode_of_encodeByte henc⟩

/-- Settles O3: each byte is looked up in the table. -/
theorem writtenBytesDecode : Obligations.WrittenBytesDecode := by
  refine ⟨?_, ?_, ?_, ?_, ?_, ?_, ?_, ?_⟩ <;> rfl

end Sys2Proof

namespace Sys2Proof.Machine

/-! ### The byte map -/

/-- Settles O5: the largest index of each of the classifying tests of R114 is 9, 35, 35, 36 and 46. -/
theorem classIndexWithinTheTable : Obligations.ClassIndexWithinTheTable := by
  intro ws c k h
  rw [classify_eq_toNat] at h
  split_ifs at h <;> simp only [ByteClass.idx.injEq] at h <;> omega

theorem mem_whitespaceSet_iff (c : Byte) :
    c ∈ Config.whitespaceSet ↔ (0x09 ≤ c.toNat ∧ c.toNat ≤ 0x0D) ∨ c.toNat = 0x20 := by
  simp only [Config.whitespaceSet, List.mem_cons, List.not_mem_nil, or_false, ← BitVec.toNat_inj, BitVec.reduceToNat]
  omega

theorem isUnsupportedByte_iff (c : Byte) :
    isUnsupportedByte c = true ↔
      c.toNat ≤ 0x08 ∨ (0x0E ≤ c.toNat ∧ c.toNat ≤ 0x1F) ∨ (0x21 ≤ c.toNat ∧ c.toNat ≤ 0x2D) ∨ c.toNat = 0x2F ∨
        (0x3B ≤ c.toNat ∧ c.toNat ≤ 0x40) ∨ (0x5B ≤ c.toNat ∧ c.toNat ≤ 0x60) ∨ (0x7B ≤ c.toNat ∧ c.toNat ≤ 0x7F) ∨
        0x8A ≤ c.toNat := by
  simp only [isUnsupportedByte, Bool.or_eq_true, Bool.and_eq_true, decide_eq_true_eq, beq_iff_eq, or_assoc]

theorem classify_default_eq_unsupported_iff (c : Byte) :
    classify Config.whitespaceSet c = .unsupported ↔ isUnsupportedByte c = true := by
  simp only [classify_eq_toNat, isUnsupportedByte_iff, mem_whitespaceSet_iff]
  split_ifs <;> simp only [false_iff, true_iff] <;> omega

theorem classify_default_eq_blank_iff (c : Byte) :
    classify Config.whitespaceSet c = .idx 36 ↔ (0x09 ≤ c.toNat ∧ c.toNat ≤ 0x0D) ∨ c.toNat = 0x20 := by
  simp only [classify_eq_toNat, mem_whitespaceSet_iff]
  split_ifs <;> simp only [ByteClass.idx.injEq, false_iff, true_iff] <;> omega

/-- A byte outside the set has the class that it has with the empty set. -/
theorem classify_of_not_mem {ws : List Byte} {c : Byte} (h : c ∉ ws) : classify ws c = classify [] c := by
  simp only [classify, whitespaceOr, h, List.not_mem_nil, if_false]

/-- The set takes a byte at step 5 of R114, unless an earlier step has it: those steps have no byte above 0x7A. -/
theorem classify_of_mem {ws : List Byte} {c : Byte} (h : c ∈ ws) :
    classify ws c = .idx 36 ∨ (classify ws c = classify [] c ∧ c.toNat ≤ 0x7A) := by
  simp only [classify_eq_toNat, h, if_true]
  split_ifs
  · exact .inr ⟨rfl, by omega⟩
  · exact .inr ⟨rfl, by omega⟩
  · exact .inr ⟨rfl, by omega⟩
  · exact .inr ⟨rfl, by omega⟩
  all_goals exact .inl rfl

/-- Settles O6. -/
theorem byteMapOfTheDefaultSet : Obligations.ByteMapOfTheDefaultSet :=
  ⟨classify_default_eq_unsupported_iff, classify_default_eq_blank_iff, fun _ _ => classify_of_not_mem,
    fun _ _ => classify_of_mem⟩

/-! ### The letters -/

theorem classify_upper (ws : List Byte) {j : Nat} (hj : j < 26) :
    classify ws (BitVec.ofNat 8 (0x41 + j)) = .idx (10 + j) := by
  have hn : (BitVec.ofNat 8 (0x41 + j)).toNat = 0x41 + j := Nat.mod_eq_of_lt (by omega)
  rw [classify_eq_toNat, hn, if_neg (by omega), if_neg (by omega), if_neg (by omega), if_pos (by omega),
    Nat.add_sub_cancel_left, Nat.add_comm]

theorem classify_lower (ws : List Byte) {j : Nat} (hj : j < 26) :
    classify ws (BitVec.ofNat 8 (0x61 + j)) = .idx (10 + j) := by
  have hn : (BitVec.ofNat 8 (0x61 + j)).toNat = 0x61 + j := Nat.mod_eq_of_lt (by omega)
  rw [classify_eq_toNat, hn, if_neg (by omega), if_neg (by omega), if_pos (by omega), Nat.add_sub_cancel_left, Nat.add_comm]

/-- Settles O7: a byte's meaning is the scan step of its class, and the two bytes have one class. -/
theorem letterCasesShareAnEntry : Obligations.LetterCasesShareAnEntry := by
  intro s j hj
  have hupper := classify_upper s.par.whitespace hj
  have hlower := classify_lower s.par.whitespace hj
  exact ⟨hupper, hlower, by rw [exec_decodeByte, exec_decodeByte, hupper, hlower]⟩

end Sys2Proof.Machine
end

section
/-! PROOFS. The byte rows (41_encoder.md, R115 to R131): the byte of each row, and what the row does to the scan. -/

namespace Sys2Proof.Machine

/-! ### A byte code is a step of the scan -/

theorem exec_eq_scanStep_of_encode_isSome {i : Instr} (h : (encode i).isSome) (s : State) :
    ∃ cls, exec i s = .next (s.scanStep cls) := by
  cases i
  case setup | render | hostwrite | renderframe | lookup | classify | sendbit | sendbyte | commit | transmitframe | setline =>
    exact absurd h Bool.false_ne_true
  all_goals exact ⟨_, rfl⟩

theorem State.scanStep_of_stopped {s : State} (h : s.cfg.n ≤ s.scan.count ∨ s.scan.i = 0) (cls : ByteClass) :
    s.scanStep cls = s := by
  have hstop : ¬ s.scan.goesOn s.cfg.n = true := by rw [Scan.goesOn_iff]; omega
  exact if_neg hstop

/-- Settles O11: each byte code is a step of the scan, which has stopped. -/
theorem byteAtTheStopHasNoEffect : Obligations.ByteAtTheStopHasNoEffect := by
  intro i s hi hstop
  obtain ⟨cls, hcls⟩ := exec_eq_scanStep_of_encode_isSome hi s
  rw [hcls, State.scanStep_of_stopped hstop]

/-! ### A row while the scan goes on -/

/-- A well-formed row is what its byte decodes to, so it makes the step of the byte's class. -/
theorem exec_row_of_class {s : State} {i : Instr} {c : Byte} {cls : ByteClass} (hwf : i.wf = true)
    (henc : encodeByte i = some c) (hcls : classify s.par.whitespace c = cls) (hc : s.scan.count < s.cfg.n)
    (hi : 0 < s.scan.i) : exec i s = .next (s.withScan (s.scan.step s.table cls)) := by
  rw [← decodeByte_of_encodeByte hwf henc, exec_decodeByte_of_class hcls hc hi]

theorem lookup_of_ne_blank {k : Nat} (hk : k ≠ 36) (table : List Pattern) : lookup table k = table.getD k 0x00#8 := if_neg hk

/-- The state after a byte that emits pattern `p` with the pending dot (R155). -/
def State.emitted (s : State) (p : Pattern) : State :=
  s.withScan
    { i := s.scan.i - 1
      dot := false
      count := s.scan.count + 1
      frame := s.scan.frame.set s.scan.count (p ||| dotMask s.scan.dot) }

/-- A row whose byte has an index other than the blank's emits that entry of the table. -/
theorem exec_row_emits {s : State} {i : Instr} {c : Byte} {k : Nat} (hwf : i.wf = true) (henc : encodeByte i = some c)
    (hcls : classify s.par.whitespace c = .idx k) (hk : k ≠ 36) (hc : s.scan.count < s.cfg.n) (hi : 0 < s.scan.i) :
    exec i s = .next (s.emitted (s.table.getD k 0x00#8)) := by
  rw [exec_row_of_class hwf henc hcls hc hi, Scan.step_of_idx, lookup_of_ne_blank hk, State.emitted]

/-! ### The families of rows, numbered -/

/-- The rows `l` are well-formed, and their bytes are the numbers from `b` on, in order. -/
def RowsFrom (b : Nat) (l : List Instr) : Prop :=
  ∀ k i, l[k]? = some i → i.wf = true ∧ encodeByte i = some (BitVec.ofNat 8 (b + k))

/-- `RowsFrom` on a written list, by evaluation. -/
theorem rowsFrom_of_map {b : Nat} {l : List Instr} (hwf : l.all Instr.wf = true)
    (henc : l.map encodeByte = (List.range l.length).map fun k => some (BitVec.ofNat 8 (b + k))) : RowsFrom b l := by
  intro k i hk
  obtain ⟨hlt, rfl⟩ := List.getElem?_eq_some_iff.mp hk
  have hbyte := congrArg (·[k]?) henc
  exact ⟨List.all_eq_true.mp hwf _ (List.getElem_mem hlt), by simpa [hlt] using hbyte⟩

theorem lt_length_of_getElem?_eq_some {α : Type} {l : List α} {k : Nat} {x : α} (h : l[k]? = some x) : k < l.length :=
  (List.getElem?_eq_some_iff.mp h).1

def digitInstrs : List Instr :=
  [.digit0, .digit1, .digit2, .digit3, .digit4, .digit5, .digit6, .digit7, .digit8, .digit9]

def lowerInstrs : List Instr :=
  [.lowerA, .lowerB, .lowerC, .lowerD, .lowerE, .lowerF, .lowerG, .lowerH, .lowerI, .lowerJ, .lowerK, .lowerL, .lowerM,
    .lowerN, .lowerO, .lowerP, .lowerQ, .lowerR, .lowerS, .lowerT, .lowerU, .lowerV, .lowerW, .lowerX, .lowerY, .lowerZ]

def upperInstrs : List Instr :=
  [.upperA, .upperB, .upperC, .upperD, .upperE, .upperF, .upperG, .upperH, .upperI, .upperJ, .upperK, .upperL, .upperM,
    .upperN, .upperO, .upperP, .upperQ, .upperR, .upperS, .upperT, .upperU, .upperV, .upperW, .upperX, .upperY, .upperZ]

def glyphInstrs : List Instr :=
  [.glyphPlay, .glyphPause, .glyphStop, .segCenter, .segTop, .segTopRight, .segBottomRight, .segBottom, .segBottomLeft,
    .segTopLeft]

theorem digitInstrs_rowsFrom : RowsFrom 0x30 digitInstrs := rowsFrom_of_map (by decide) (by decide)
theorem lowerInstrs_rowsFrom : RowsFrom 0x61 lowerInstrs := rowsFrom_of_map (by decide) (by decide)
theorem upperInstrs_rowsFrom : RowsFrom 0x41 upperInstrs := rowsFrom_of_map (by decide) (by decide)
theorem glyphInstrs_rowsFrom : RowsFrom 0x80 glyphInstrs := rowsFrom_of_map (by decide) (by decide)

/-! ### The classes of the numbered bytes -/

theorem classify_digit (ws : List Byte) {k : Nat} (hk : k < 10) : classify ws (BitVec.ofNat 8 (0x30 + k)) = .idx k := by
  have hn : (BitVec.ofNat 8 (0x30 + k)).toNat = 0x30 + k := Nat.mod_eq_of_lt (by omega)
  rw [classify_eq_toNat, hn, if_neg (by omega), if_pos (by omega), Nat.add_sub_cancel_left]

theorem classify_glyph {ws : List Byte} {k : Nat} (hk : k < 10) (hws : BitVec.ofNat 8 (0x80 + k) ∉ ws) :
    classify ws (BitVec.ofNat 8 (0x80 + k)) = .idx (37 + k) := by
  have hn : (BitVec.ofNat 8 (0x80 + k)).toNat = 0x80 + k := Nat.mod_eq_of_lt (by omega)
  rw [classify_eq_toNat, hn, if_neg (by omega), if_neg (by omega), if_neg (by omega), if_neg (by omega), if_neg hws,
    if_pos (by omega), Nat.add_sub_cancel_left]

/-- A byte of the UNSUPPORTED ranges is of no class, unless the whitespace set holds it (R83, R131). -/
theorem classify_of_isUnsupportedByte {ws : List Byte} {c : Byte} (hc : isUnsupportedByte c = true) (hws : c ∉ ws) :
    classify ws c = .unsupported := by
  rw [isUnsupportedByte_iff] at hc
  rw [classify_eq_toNat, if_neg (by omega), if_neg (by omega), if_neg (by omega), if_neg (by omega), if_neg hws,
    if_neg (by omega)]

/-! ### The rows, family by family -/

/-- Settles O12. -/
theorem dotAndUnsupportedRowsRun : Obligations.DotAndUnsupportedRowsRun := by
  intro s hc hi
  refine ⟨fun i hdot => ?_, fun c hwf hws => ?_⟩
  · rcases hdot with rfl | rfl
    · exact exec_row_of_class (cls := .dot) rfl rfl rfl hc hi
    · exact exec_row_of_class (cls := .dot) rfl rfl rfl hc hi
  · exact exec_row_of_class hwf rfl (classify_of_isUnsupportedByte hwf hws) hc hi

/-- Settles O13. -/
theorem digitRowsEmit : Obligations.DigitRowsEmit := by
  intro s k i hc hi hrow
  have hk : k < 10 := lt_length_of_getElem?_eq_some hrow
  obtain ⟨hwf, henc⟩ := digitInstrs_rowsFrom k i hrow
  exact ⟨encode_of_encodeByte henc, exec_row_emits hwf henc (classify_digit _ hk) (by omega) hc hi⟩

/-- Settles O14: both bytes of a letter have index 10 + k (`classify_lower`, `classify_upper`). -/
theorem letterRowsEmit : Obligations.LetterRowsEmit := by
  intro s k i hc hi
  refine ⟨fun hrow => ?lower, fun hrow => ?upper⟩
  case lower =>
    have hk : k < 26 := lt_length_of_getElem?_eq_some hrow
    obtain ⟨hwf, henc⟩ := lowerInstrs_rowsFrom k i hrow
    exact ⟨encode_of_encodeByte henc, exec_row_emits hwf henc (classify_lower _ hk) (by omega) hc hi⟩
  case upper =>
    have hk : k < 26 := lt_length_of_getElem?_eq_some hrow
    obtain ⟨hwf, henc⟩ := upperInstrs_rowsFrom k i hrow
    exact ⟨encode_of_encodeByte henc, exec_row_emits hwf henc (classify_upper _ hk) (by omega) hc hi⟩

/-- Settles O16. -/
theorem glyphRowsEmit : Obligations.GlyphRowsEmit := by
  intro s k i hc hi hrow
  have hk : k < 10 := lt_length_of_getElem?_eq_some hrow
  obtain ⟨hwf, henc⟩ := glyphInstrs_rowsFrom k i hrow
  exact ⟨encode_of_encodeByte henc, fun hws => exec_row_emits hwf henc (classify_glyph hk hws) (by omega) hc hi⟩

/-! ### The WHITESPACE rows -/

/-- The WHITESPACE rows with their bytes. -/
def whitespaceInstrs : List (Instr × Byte) :=
  [(.wsHt, 0x09#8), (.wsLf, 0x0A#8), (.wsVt, 0x0B#8), (.wsFf, 0x0C#8), (.wsCr, 0x0D#8), (.wsSp, 0x20#8)]

theorem whitespaceInstrs_rows : ∀ row ∈ whitespaceInstrs, row.1.wf = true ∧ encodeByte row.1 = some row.2 := by decide

/-- The bytes of the WHITESPACE rows reach step 5 of R114, and no step after it takes them. -/
theorem classify_whitespaceInstrs (ws : List Byte) :
    ∀ row ∈ whitespaceInstrs, classify ws row.2 = whitespaceOr ws row.2 .unsupported := by
  intro row hrow
  fin_cases hrow <;> rfl

theorem whitespaceOr_of_mem {ws : List Byte} {c : Byte} (h : c ∈ ws) (other : ByteClass) :
    whitespaceOr ws c other = .idx 36 := if_pos h

theorem whitespaceOr_of_not_mem {ws : List Byte} {c : Byte} (h : c ∉ ws) (other : ByteClass) :
    whitespaceOr ws c other = other := if_neg h

/-- Settles O15. -/
theorem whitespaceRowsEmitBlank : Obligations.WhitespaceRowsEmitBlank := by
  intro s i c hc hi hrow
  obtain ⟨hwf, henc⟩ := whitespaceInstrs_rows (i, c) hrow
  have hcls := classify_whitespaceInstrs s.par.whitespace (i, c) hrow
  refine ⟨encode_of_encodeByte henc, fun hws => ?_, fun hws => ?_⟩
  · rw [exec_row_of_class hwf henc (hcls.trans (whitespaceOr_of_mem hws _)) hc hi, Scan.step_of_idx, lookup_blank,
      BitVec.zero_or]
    rfl
  · exact exec_row_of_class hwf henc (hcls.trans (whitespaceOr_of_not_mem hws _)) hc hi

end Sys2Proof.Machine
end

section
/-! PROOFS. The SerialTransmitter and the chain (43_transmitter.md section 1, 44_output_bank.md): what a SetLine, a bit, a byte,
a commit and a frame record, and what they leave on the lines and in the chain. -/

namespace Sys2Proof.Machine

/-! ### One SetLine, one bit, one byte, one commit -/

/-- Settles O23. -/
theorem repeatedLevelOnlyRecords : Obligations.RepeatedLevelOnlyRecords := by
  intro s l
  rw [exec_setline, State.setLine, Bank.setLine_same_level]
  rfl

/-- Settles O24. -/
theorem sendBitMakesOneBitCell : Obligations.SendBitMakesOneBitCell := by
  intro s v
  rw [exec, execSendbit, Bank.sendBit_eq]
  rfl

/-- Settles O25: a byte is its eight bits sent one after the other, bit 0 first. -/
theorem sendByteSendsBitZeroFirst : Obligations.SendByteSendsBitZeroFirst := by
  intro s p hlen
  rw [exec, execSendbyte, Bank.sendByte_eq_sendBits, Bank.sendBits_eq _ _ _ hlen.le]
  rfl

/-- Settles O26. -/
theorem commitPulsesStrobe : Obligations.CommitPulsesStrobe := by
  intro s
  rw [exec, execCommit, Bank.commit_eq]
  rfl

/-! ### The serial stream of a frame -/

theorem stream_append (f g : List Pattern) : stream (f ++ g) = stream f ++ stream g := List.flatMap_append

theorem stream_cons (p : Pattern) (f : List Pattern) : stream (p :: f) = patternBits p ++ stream f := List.flatMap_cons

theorem patternBits_getElem? (p : Pattern) {k : Nat} (hk : k < 8) : (patternBits p)[k]? = some (p.getLsbD k) := by
  rw [patternBits, List.getElem?_map, List.getElem?_range hk, Option.map_some]

/-- Bit k of slot j stands at place 8×j + k of the stream (R56). -/
theorem stream_getElem? {f : List Pattern} {j k : Nat} {p : Pattern} (hp : f[j]? = some p) (hk : k < 8) :
    (stream f)[8 * j + k]? = some (p.getLsbD k) := by
  induction f generalizing j with
  | nil => exact nomatch hp
  | cons p' f ih =>
    rw [stream_cons]
    cases j with
    | zero =>
      obtain rfl := Option.some.inj hp
      rw [List.getElem?_append_left (by rw [patternBits_length]; omega), Nat.mul_zero, Nat.zero_add,
        patternBits_getElem? p' hk]
    | succ j =>
      have hplace : 8 * (j + 1) + k - (patternBits p').length = 8 * j + k := by rw [patternBits_length]; omega
      rw [List.getElem?_append_right (by rw [patternBits_length]; omega), hplace, ih hp]

/-- The last bit of the stream is bit 7 of the last slot. -/
theorem stream_getLastD {f : List Pattern} {p : Pattern} (hp : f.getLast? = some p) (d : Bool) :
    (stream f).getLastD d = p.getLsbD 7 := by
  obtain ⟨g, rfl⟩ := List.getLast?_eq_some_iff.mp hp
  rw [stream_append]
  simp [stream, patternBits, List.getLastD_eq_getLast?, List.range_succ]

/-! ### The levels after a transmission, whatever the chain holds -/

theorem Bank.sendBits_cons (cb : Nat) (v : Bool) (bits : List Bool) (b : Bank) :
    b.sendBits cb (v :: bits) = (b.sendBit cb v).sendBits cb bits := rfl

theorem Bank.sendBits_lv (cb : Nat) (bits : List Bool) (b : Bank) :
    (b.sendBits cb bits).lv =
      { b.lv with data := bits.getLastD b.lv.data, clock := b.lv.clock || !bits.isEmpty } := by
  induction bits generalizing b with
  | nil => simp [Bank.sendBits]
  | cons v bits ih =>
    rw [Bank.sendBits_cons, ih, Bank.sendBit_eq, List.getLastD_cons]
    simp

theorem Bank.transmit_lv (cb : Nat) {f : List Pattern} {p : Pattern} (hp : f.getLast? = some p) (b : Bank) :
    (b.transmit cb f).lv = { b.lv with data := p.getLsbD 7, clock := true, strobe := false } := by
  have hne : (stream f).isEmpty = false := by
    obtain ⟨g, rfl⟩ := List.getLast?_eq_some_iff.mp hp
    simp [stream_append, stream_cons, patternBits]
  rw [Bank.transmit, foldl_sendByte_eq_sendBits, Bank.commit_eq, Bank.sendBits_lv, stream_getLastD hp, hne]
  simp

/-- What TRANSMITFRAME does where it has a meaning (R193, R9). -/
theorem exec_transmitframe_next {f : List Pattern} {s t : State} (h : exec (.transmitframe f) s = .next t) :
    f.length = s.cfg.n ∧ t = s.withBank (s.bank.transmit s.par.chainBits f) := by
  by_cases hf : f.length = s.cfg.n
  · rw [exec_transmitframe_of_length hf] at h
    exact ⟨hf, (Host.Outcome.next.inj h).symm⟩
  · rw [exec, execTransmitframe, if_neg hf] at h
    cases h

/-- Settles O28. -/
theorem levelsAfterATransmission : Obligations.LevelsAfterATransmission := by
  intro s t f p hp hex
  obtain ⟨-, rfl⟩ := exec_transmitframe_next hex
  rw [State.withBank_bank, Bank.transmit_lv _ hp]
  exact ⟨rfl, rfl, rfl, rfl⟩

/-! ### The events of a run of bit cells -/

theorem bitCells_length (bits : List Bool) : (bits.flatMap bitCell).length = 3 * bits.length := by
  induction bits with
  | nil => rfl
  | cons v bits ih =>
    have hcell : (bitCell v).length = 3 := rfl
    rw [List.flatMap_cons, List.length_append, ih, hcell, List.length_cons]
    omega

theorem bitCells_count_clock (v : Bool) (bits : List Bool) : (bits.flatMap bitCell).count (.clock, v) = bits.length := by
  induction bits with
  | nil => rfl
  | cons b bits ih =>
    rw [List.flatMap_cons, List.count_append, ih, List.length_cons, Nat.add_comm]
    cases v <;> simp [bitCell]

theorem bitCells_data (bits : List Bool) :
    ((bits.flatMap bitCell).filter fun e => decide (e.1 = .data)).map Prod.snd = bits := by
  induction bits with
  | nil => rfl
  | cons v bits ih =>
    rw [List.flatMap_cons, List.filter_append, List.map_append, ih]
    rfl

theorem bitCells_line {bits : List Bool} {e : Event} (he : e ∈ bits.flatMap bitCell) : e.1 = .clock ∨ e.1 = .data := by
  obtain ⟨v, -, hv⟩ := List.mem_flatMap.mp he
  simp only [bitCell, List.mem_cons, List.not_mem_nil, or_false] at hv
  rcases hv with rfl | rfl | rfl <;> simp

/-- Bit m of a run has the three events from place 3×m on (R89). -/
theorem bitCells_getElem? {bits : List Bool} {m : Nat} {v : Bool} (h : bits[m]? = some v) :
    (bits.flatMap bitCell)[3 * m]? = some (.clock, false) ∧ (bits.flatMap bitCell)[3 * m + 1]? = some (.data, v) ∧
      (bits.flatMap bitCell)[3 * m + 2]? = some (.clock, true) := by
  induction bits generalizing m with
  | nil => exact nomatch h
  | cons b bits ih =>
    cases m with
    | zero =>
      obtain rfl := Option.some.inj h
      exact ⟨rfl, rfl, rfl⟩
    | succ m => exact ih h

/-! ### The events of a frame transmission -/

theorem frameEvents_eq_bitCells (f : List Pattern) : frameEvents f = (stream f).flatMap bitCell ++ commitEvents := by
  rw [frameEvents, stream_flatMap_bitCell]

/-- The three events of bit k of slot j among those of a frame (R89, R193). -/
theorem frameEvents_getElem? {f : List Pattern} {j k : Nat} {p : Pattern} (hp : f[j]? = some p) (hk : k < 8) :
    (frameEvents f)[24 * j + 3 * k]? = some (.clock, false) ∧
      (frameEvents f)[24 * j + 3 * k + 1]? = some (.data, p.getLsbD k) ∧
      (frameEvents f)[24 * j + 3 * k + 2]? = some (.clock, true) := by
  have hj : j < f.length := lt_length_of_getElem?_eq_some hp
  have hplace : 24 * j + 3 * k = 3 * (8 * j + k) := by omega
  have hlen : ((stream f).flatMap bitCell).length = 24 * f.length := by rw [bitCells_length, stream_length]; omega
  rw [hplace, frameEvents_eq_bitCells, List.getElem?_append_left (by omega), List.getElem?_append_left (by omega),
    List.getElem?_append_left (by omega)]
  exact bitCells_getElem? (stream_getElem? hp hk)

/-- The commit's two events close those of a frame. -/
theorem frameEvents_getElem?_commit (f : List Pattern) :
    (frameEvents f)[24 * f.length]? = some (.strobe, true) ∧ (frameEvents f)[24 * f.length + 1]? = some (.strobe, false) := by
  have hlen : ((stream f).flatMap bitCell).length = 24 * f.length := by rw [bitCells_length, stream_length]; omega
  rw [frameEvents_eq_bitCells, ← hlen, List.getElem?_append_right (Nat.le_refl _),
    List.getElem?_append_right (Nat.le_add_right _ _), Nat.sub_self, Nat.add_sub_cancel_left]
  exact ⟨rfl, rfl⟩

theorem frameEvents_count_clock (v : Bool) (f : List Pattern) : (frameEvents f).count (.clock, v) = 8 * f.length := by
  rw [frameEvents_eq_bitCells, List.count_append, bitCells_count_clock, stream_length]
  cases v <;> rfl

theorem frameEvents_data (f : List Pattern) :
    ((frameEvents f).filter fun e => decide (e.1 = .data)).map Prod.snd = stream f := by
  rw [frameEvents_eq_bitCells, List.filter_append, List.map_append, bitCells_data]
  exact List.append_nil _

theorem frameEvents_count_strobe (v : Bool) (f : List Pattern) : (frameEvents f).count (.strobe, v) = 1 := by
  have hcells : ((stream f).flatMap bitCell).count (.strobe, v) = 0 :=
    List.count_eq_zero.mpr fun h => by simpa using bitCells_line h
  rw [frameEvents_eq_bitCells, List.count_append, hcells]
  cases v <;> rfl

theorem frameEvents_ne_oe {f : List Pattern} {e : Event} (he : e ∈ frameEvents f) : e.1 ≠ .oe := by
  rw [frameEvents_eq_bitCells, List.mem_append] at he
  rcases he with he | he
  · rcases bitCells_line he with h | h <;> simp [h]
  · simp only [commitEvents, List.mem_cons, List.not_mem_nil, or_false] at he
    rcases he with rfl | rfl <;> simp

/-- Each CLOCK rise closes the bit cell of bit q / 3 mod 8 of slot q / 24. -/
theorem frameEvents_clock_rise {f : List Pattern} {q : Nat} (hq : (frameEvents f)[q]? = some (.clock, true)) :
    2 ≤ q ∧ (frameEvents f)[q - 2]? = some (.clock, false) ∧
      ∃ p, f[q / 24]? = some p ∧ (frameEvents f)[q - 1]? = some (.data, p.getLsbD (q / 3 % 8)) := by
  obtain ⟨hfirst, hsecond⟩ := frameEvents_getElem?_commit f
  have hlt : q < 24 * f.length + 2 := frameEvents_length f ▸ lt_length_of_getElem?_eq_some hq
  rcases Nat.lt_or_ge q (24 * f.length) with hcell | hcommit
  · obtain ⟨p, hp⟩ : ∃ p, f[q / 24]? = some p := ⟨_, List.getElem?_eq_getElem (by omega)⟩
    obtain ⟨hlow, hdata, -⟩ := frameEvents_getElem? hp (k := q / 3 % 8) (by omega)
    have hplace : q = 24 * (q / 24) + 3 * (q / 3 % 8) + q % 3 := by omega
    have hphase : q % 3 = 0 ∨ q % 3 = 1 ∨ q % 3 = 2 := by omega
    rcases hphase with h | h | h
    · rw [hplace, h, Nat.add_zero, hlow] at hq
      simp at hq
    · rw [hplace, h, hdata] at hq
      simp at hq
    · refine ⟨by omega, ?_, p, hp, ?_⟩
      · rw [← hlow]; congr 1; omega
      · rw [← hdata]; congr 1; omega
  · obtain rfl | rfl : q = 24 * f.length ∨ q = 24 * f.length + 1 := by omega
    · rw [hfirst] at hq; simp at hq
    · rw [hsecond] at hq; simp at hq

/-- Settles O29: the events are those of the frame, counted and placed by the lemmas above. -/
theorem eventsOfAFrameTransmission : Obligations.EventsOfAFrameTransmission := by
  intro s t f hex
  obtain ⟨hf, rfl⟩ := exec_transmitframe_next hex
  rw [← hf]
  exact ⟨frameEvents f, Bank.transmit_trace _ _ _, frameEvents_length f, frameEvents_count_clock false f,
    frameEvents_count_clock true f, frameEvents_data f, frameEvents_count_strobe true f, frameEvents_count_strobe false f,
    fun _ => frameEvents_ne_oe, fun _ => frameEvents_clock_rise⟩

/-! ### The chain after a transmission -/

/-- Settles O30: the frame's bits, last bit first, stand before what the chain held (`Bank.transmit_eq`). -/
theorem chainHoldsTheFrame : Obligations.ChainHoldsTheFrame := by
  intro s t f hlen hchain hex
  obtain ⟨hf, rfl⟩ := exec_transmitframe_next hex
  have hbits : (stream f).length = 8 * s.cfg.n := by rw [stream_length, hf]
  rw [State.withBank_bank, Bank.transmit_eq _ _ _ hlen.le]
  refine ⟨?length, fun j k p hp hk => ?slots, fun q hlo hhi => ?beyond, fun hlow => ?latched, fun hhigh => ?kept⟩
  case length => simp only [List.length_take, List.length_append, List.length_reverse]; omega
  case slots =>
    have hj : j < s.cfg.n := hf ▸ lt_length_of_getElem?_eq_some hp
    have hplace : (stream f).length - 1 - (8 * (s.cfg.n - 1 - j) + 7 - k) = 8 * j + k := by omega
    rw [List.getElem?_take_of_lt (by omega), List.getElem?_append_left (by rw [List.length_reverse]; omega),
      List.getElem?_reverse (by omega), hplace, stream_getElem? hp hk]
  case beyond =>
    rw [List.getElem?_take_of_lt hhi, List.getElem?_append_right (by rw [List.length_reverse]; omega), List.length_reverse,
      hbits]
  case latched => simp [hlow]
  case kept => simp [hhigh]

end Sys2Proof.Machine
end

section
/-! PROOFS. What a step can do, said once by cases, and what every instruction and every step keeps: the configuration, the shape
of the state and the machine's invariant (10_state.md, 43_transmitter.md section 2). -/

namespace Sys2Proof.Machine

/-! ### Line events made in order -/

theorem Bank.replay_bitCells (cb : Nat) (bits : List Bool) (b : Bank) :
    Bank.replay cb (bits.flatMap bitCell) b = b.sendBits cb bits := by
  induction bits generalizing b with
  | nil => rfl
  | cons v bits ih =>
    rw [List.flatMap_cons, Bank.replay_append, ih, Bank.sendBits_cons]
    rfl

/-- A transmission is its events made in order (R193). -/
theorem Bank.replay_frameEvents (cb : Nat) (f : List Pattern) (b : Bank) :
    Bank.replay cb (frameEvents f) b = b.transmit cb f := by
  rw [frameEvents_eq_bitCells, Bank.replay_append, Bank.replay_bitCells, Bank.transmit, foldl_sendByte_eq_sendBits]
  rfl

/-- What every SetLine keeps, a list of events keeps. -/
theorem Bank.replay_keeps {cb : Nat} {P : Bank → Prop} (hP : ∀ l v b, P b → P (b.setLine cb l v)) (es : List Event) {b : Bank}
    (hb : P b) : P (Bank.replay cb es b) := by
  induction es generalizing b with
  | nil => exact hb
  | cons e es ih => exact ih (hP e.1 e.2 b hb)

/-- The line side changes by line events alone, whatever the instruction. -/
theorem exec_bank_eq_replay {i : Instr} {s t : State} (h : exec i s = .next t) :
    ∃ es, t.bank = Bank.replay s.par.chainBits es s.bank := by
  rcases exec_next_cases h with ⟨c, rfl⟩ | rfl | ⟨buf, len, rfl⟩ | ⟨buf, len, -, rfl⟩ | ⟨x, rfl⟩ | ⟨v, rfl⟩ | ⟨p, rfl⟩ | rfl |
    ⟨f, rfl⟩ | ⟨l, v, rfl⟩
  · exact ⟨[], by rw [State.scanStep_eq]; rfl⟩
  · rcases s.runSetup_cases with ⟨r, -, e⟩ | ⟨-, -, -, e⟩ <;> rw [e]
    · exact ⟨[], rfl⟩
    · exact ⟨[(.oe, s.par.oeSetupLevel)], rfl⟩
  · rcases s.runRender_cases buf len with ⟨r, -, e⟩ | ⟨-, -, -, e⟩ <;> rw [e]
    · exact ⟨[], rfl⟩
    · exact ⟨_, by rw [State.complete_accept, ← Bank.replay_frameEvents]⟩
  · exact ⟨[], rfl⟩
  · exact ⟨[], rfl⟩
  · exact ⟨bitCell v, rfl⟩
  · exact ⟨_, by rw [Bank.sendByte_eq_sendBits, ← Bank.replay_bitCells]; rfl⟩
  · exact ⟨commitEvents, rfl⟩
  · exact ⟨frameEvents f, (Bank.replay_frameEvents _ _ _).symm⟩
  · exact ⟨[(l, v)], rfl⟩

/-! ### The host side of a step -/

/-- `t` differs from `s` at most in what the host side drives and reads: READY, bytes of the buffer, the answer of the port and
the inputs still to come. -/
def State.HostOnly (s t : State) : Prop :=
  ∃ r m v hs, m.size = s.input.size ∧ (s.input.wf = true → m.wf = true) ∧
    t = { s with ready := r, input := m, verdict := v, host := hs }

theorem State.hostOnly_refl (s : State) : s.HostOnly s := ⟨_, _, _, _, rfl, id, rfl⟩

theorem State.hostOnly_withHost (s : State) (hs : List HostInput) : s.HostOnly (s.withHost hs) := ⟨_, _, _, hs, rfl, id, rfl⟩

theorem State.hostOnly_refuse (s : State) (rs : List Reason) (hs : List HostInput) :
    s.HostOnly ((s.refuse rs).withHost hs) := ⟨_, _, _, hs, rfl, id, rfl⟩

theorem State.landNext_of_nil {s : State} (h : s.host = []) : s.landNext = s := by
  rw [State.landNext, h]

theorem State.landNext_of_cons {s : State} {x : HostInput} {rest : List HostInput} (h : s.host = x :: rest) :
    s.landNext = (s.land x).withHost rest := by
  rw [State.landNext, h]

section HostOnly
variable {s t : State} (h : s.HostOnly t)
include h

theorem State.HostOnly.cfg_eq : t.cfg = s.cfg := by obtain ⟨r, m, v, hs, -, -, rfl⟩ := h; rfl
theorem State.HostOnly.par_eq : t.par = s.par := by obtain ⟨r, m, v, hs, -, -, rfl⟩ := h; rfl
theorem State.HostOnly.seq_eq : t.seq = s.seq := by obtain ⟨r, m, v, hs, -, -, rfl⟩ := h; rfl
theorem State.HostOnly.scan_eq : t.scan = s.scan := by obtain ⟨r, m, v, hs, -, -, rfl⟩ := h; rfl
theorem State.HostOnly.bank_eq : t.bank = s.bank := by obtain ⟨r, m, v, hs, -, -, rfl⟩ := h; rfl
theorem State.HostOnly.busy_eq : t.busy = s.busy := by rw [State.busy, h.seq_eq, State.busy]

end HostOnly

@[simp] theorem State.land_setup (s : State) : s.land (.present .setup) = s.runSetup := rfl

/-- What the host's next input can do: nothing to the block, a Render accepted, or the Setup (R150, R291). -/
theorem State.landNext_cases (s : State) :
    s.HostOnly s.landNext ∨
      (∃ buf len rest, s.seq = .idle ∧ len ≤ buf.length ∧ s.landNext = (s.accept buf len).withHost rest) ∨
      (∃ rest, s.cfg.valid = true ∧ s.seq = .unconfigured ∧
        s.landNext = (((s.setLine .oe s.par.oeSetupLevel).withSeq .idle).withVerdict .accepted).withHost rest) := by
  cases hh : s.host with
  | nil => exact .inl (by rw [State.landNext_of_nil hh]; exact s.hostOnly_refl)
  | cons x rest =>
    rw [State.landNext_of_cons hh]
    have render (buf : List Byte) (len : Nat) :
        s.HostOnly ((s.presentRender buf len).withHost rest) ∨
          (s.seq = .idle ∧ len ≤ buf.length ∧ (s.presentRender buf len).withHost rest = (s.accept buf len).withHost rest) := by
      rcases s.presentRender_cases buf len with ⟨r, -, e⟩ | ⟨hs, -, hl, e⟩ <;> rw [e]
      · exact .inl (s.hostOnly_refuse r rest)
      · exact .inr ⟨hs, hl, rfl⟩
    cases x with
    | wait => exact .inl (s.hostOnly_withHost rest)
    | ready v => exact .inl ⟨v, _, _, rest, rfl, id, rfl⟩
    | store a b =>
      exact .inl ⟨_, s.input.write a b, _, rest, Memory.write_size _ _ _, fun h => Memory.write_wf h a b, rfl⟩
    | present t =>
      cases t with
      | setup =>
        rcases s.runSetup_cases with ⟨r, -, e⟩ | ⟨hv, -, hs, e⟩
        · exact .inl (by rw [State.land_setup, e]; exact s.hostOnly_refuse r rest)
        · exact .inr (.inr ⟨rest, hv, hs, by rw [State.land_setup, e]⟩)
      | render buf len => exact (render buf len).imp_right fun h => .inl ⟨buf, len, rest, h⟩
      | hostwrite buf => exact (render buf _).imp_right fun h => .inl ⟨buf, _, rest, h⟩

theorem State.busy_eq_true_iff {s : State} : s.busy = true ↔ s.seq ≠ .unconfigured ∧ s.seq ≠ .idle := by
  unfold State.busy
  cases s.seq <;> simp

theorem State.busy_eq_false_iff {s : State} : s.busy = false ↔ s.seq = .unconfigured ∨ s.seq = .idle := by
  unfold State.busy
  cases s.seq <;> simp

theorem State.landNext_hostOnly {s : State} (hb : s.busy = true) : s.HostOnly s.landNext := by
  obtain ⟨hu, hi⟩ := State.busy_eq_true_iff.mp hb
  rcases s.landNext_cases with h | ⟨_, _, _, h, -⟩ | ⟨_, -, h, -⟩
  · exact h
  · exact absurd h hi
  · exact absurd h hu

/-! ### A row of the sequencer's table -/

/-- What the rows of R195 that make a line event have in common: the event `l`, `v` and the next SEQ `nx`. -/
structure State.EventRow (s : State) (l : Line) (v : Bool) (nx : Seq) : Prop where
  notOe : l ≠ .oe
  setUp : nx ≠ .unconfigured
  slot : ∀ j k ph, nx = .shift j k ph → j < s.cfg.n
  /-- STROBE is raised into STROBE_LOW, lowered out of it, and left by every other row. -/
  strobe : nx = .strobeLow ∨ (l = .strobe ∧ v = false) ∨ (l ≠ .strobe ∧ s.seq ≠ .strobeLow)

theorem seqAfterBit_cases (n j : Nat) (k : Fin 8) :
    (∃ k', seqAfterBit n j k = .shift j k' .clkLow) ∨ (j + 1 < n ∧ seqAfterBit n j k = .shift (j + 1) 0 .clkLow) ∨
      seqAfterBit n j k = .strobeHigh := by
  unfold seqAfterBit
  split_ifs with hk hj
  · exact .inl ⟨_, rfl⟩
  · exact .inr (.inl ⟨hj, rfl⟩)
  · exact .inr (.inr rfl)

theorem State.eventRow_afterBit {s : State} {j : Nat} (hj : j < s.cfg.n) (k : Fin 8) (hseq : s.seq = .shift j k .clkHigh) :
    s.EventRow .clock true (seqAfterBit s.cfg.n j k) := by
  have hstrobe : Line.clock ≠ .strobe ∧ s.seq ≠ .strobeLow := by simp [hseq]
  rcases seqAfterBit_cases s.cfg.n j k with ⟨k', e⟩ | ⟨hj', e⟩ | e <;> rw [e]
  · exact ⟨by decide, by simp, fun _ _ _ h => by cases h; exact hj, .inr (.inr hstrobe)⟩
  · exact ⟨by decide, by simp, fun _ _ _ h => by cases h; exact hj', .inr (.inr hstrobe)⟩
  · exact ⟨by decide, by simp, fun _ _ _ h => (nomatch h), .inr (.inr hstrobe)⟩

/-- A step of a block in flight outside COMPUTE is one row of the table. -/
theorem State.blockStep_eventRow {s t : State} (hb : s.busy = true) (hc : s.seq ≠ .compute) (h : s.blockStep = .next t) :
    ∃ l v nx, s.EventRow l v nx ∧ t = (s.setLine l v).withSeq nx := by
  obtain ⟨hu, hi⟩ := State.busy_eq_true_iff.mp hb
  rcases State.blockStep_next_cases h with ⟨hs, -⟩ | ⟨hs, -⟩ | ⟨j, k, p, hs, hj, -, e⟩ | ⟨j, k, p, hs, hj, -, e⟩ |
    ⟨j, k, p, hs, hj, -, e⟩ | ⟨hs, e⟩ | ⟨hs, e⟩
  · exact absurd hs (not_or.mpr ⟨hu, hi⟩)
  · exact absurd hs hc
  · exact ⟨_, _, _, ⟨by decide, by simp, fun _ _ _ h => by cases h; exact hj, .inr (.inr (by simp [hs]))⟩, e⟩
  · exact ⟨_, _, _, ⟨by decide, by simp, fun _ _ _ h => by cases h; exact hj, .inr (.inr (by simp [hs]))⟩, e⟩
  · exact ⟨_, _, _, State.eventRow_afterBit hj k hs, e⟩
  · exact ⟨.strobe, true, .strobeLow, ⟨by decide, by simp, fun _ _ _ h => (nomatch h), .inl rfl⟩, e⟩
  · exact ⟨.strobe, false, .idle, ⟨by decide, by simp, fun _ _ _ h => (nomatch h), .inr (.inl ⟨rfl, rfl⟩)⟩, e⟩

/-! ### The cases of a step -/

/-- All that a step can do, with the state it leads to. -/
inductive StepCase (s : State) : State → Prop where
  /-- COMPUTE, byte by byte: one step of the scan (log 11). -/
  | byte (cls : ByteClass) (hseq : s.seq = .compute) (hgo : s.scan.goesOn s.cfg.n = true) :
      StepCase s (s.withScan (s.scan.step s.table cls))
  /-- COMPUTE, byte by byte: the scan has stopped, and F is padded (R157). -/
  | pad (hseq : s.seq = .compute) : StepCase s ((s.withScan (s.scan.pad s.cfg.n)).withSeq (.shift 0 0 .clkLow))
  /-- COMPUTE in one step (R195). -/
  | frame (hseq : s.seq = .compute) (hlen : s.len ≤ s.input.size) :
      StepCase s ((s.renderFrame s.input.bytes s.len).withSeq (.shift 0 0 .clkLow))
  /-- In flight: the host's input, then one line event (R195, R196). -/
  | event (u : State) (l : Line) (v : Bool) (nx : Seq) (hbusy : s.busy = true) (hseq : s.seq ≠ .compute) (hu : s.HostOnly u)
      (hrow : u.EventRow l v nx) : StepCase s ((u.setLine l v).withSeq nx)
  /-- No transaction in flight, and none accepted. -/
  | wait (u : State) (hbusy : s.busy = false) (hu : s.HostOnly u) : StepCase s u
  /-- A Render or HostWrite is accepted (R150). -/
  | accept (buf : List Byte) (len : Nat) (rest : List HostInput) (hseq : s.seq = .idle) (hlen : len ≤ buf.length) :
      StepCase s ((s.accept buf len).withHost rest)
  /-- Setup is accepted (R291). -/
  | setup (rest : List HostInput) (hvalid : s.cfg.valid = true) (hseq : s.seq = .unconfigured) :
      StepCase s ((((s.setLine .oe s.par.oeSetupLevel).withSeq .idle).withVerdict .accepted).withHost rest)

theorem State.byteStep_stepCase {s t : State} (hseq : s.seq = .compute) (h : s.byteStep = .next t) : StepCase s t := by
  rcases State.byteStep_next_cases h with ⟨hgo, c, -, hex⟩ | ⟨-, rfl⟩
  · rw [exec_decodeByte, State.scanStep_of_goesOn hgo] at hex
    obtain rfl := Host.Outcome.next.inj hex
    exact .byte _ hseq hgo
  · exact .pad hseq

theorem State.blockStep_stepCase {s t : State} (hseq : s.seq = .compute) (h : s.blockStep = .next t) : StepCase s t := by
  rcases State.blockStep_next_cases h with ⟨hs, -⟩ | ⟨-, hlen, rfl⟩ | ⟨_, _, _, hs, -⟩ | ⟨_, _, _, hs, -⟩ | ⟨_, _, _, hs, -⟩ |
    ⟨hs, -⟩ | ⟨hs, -⟩
  case inr.inl => exact .frame hseq hlen
  all_goals simp [hseq] at hs

theorem stepCase_of_step {s t : State} (h : step s = .next t) : StepCase s t := by
  rcases step_next_cases h with ⟨hseq, -, hstep⟩ | ⟨hseq, -, hstep⟩ | ⟨hseq, hb, hstep⟩ | ⟨hb, rfl⟩
  · exact State.byteStep_stepCase hseq hstep
  · exact State.blockStep_stepCase hseq hstep
  · have hu := State.landNext_hostOnly hb
    obtain ⟨l, v, nx, hrow, rfl⟩ := State.blockStep_eventRow (hu.busy_eq.trans hb) (hu.seq_eq ▸ hseq) hstep
    exact .event _ l v nx hb hseq hu hrow
  · rcases s.landNext_cases with hu | ⟨buf, len, rest, hs, hlen, e⟩ | ⟨rest, hvalid, hs, e⟩
    · exact .wait _ hb hu
    · exact e ▸ .accept buf len rest hs hlen
    · exact e ▸ .setup rest hvalid hs

/-! ### The configuration -/

/-- What an instruction and a step may not write. -/
def State.SameConfig (s t : State) : Prop :=
  t.cfg = s.cfg ∧ t.configRefused = s.configRefused ∧ t.par = s.par ∧ t.table = s.table

theorem exec_sameConfig {i : Instr} {s t : State} (h : exec i s = .next t) : s.SameConfig t := by
  rcases exec_next_cases h with ⟨c, rfl⟩ | rfl | ⟨buf, len, rfl⟩ | ⟨buf, len, -, rfl⟩ | ⟨x, rfl⟩ | ⟨v, rfl⟩ | ⟨p, rfl⟩ | rfl |
    ⟨f, rfl⟩ | ⟨l, v, rfl⟩
  case inl => rw [State.scanStep_eq]; exact ⟨rfl, rfl, rfl, rfl⟩
  case inr.inl => rcases s.runSetup_cases with ⟨r, -, e⟩ | ⟨-, -, -, e⟩ <;> rw [e] <;> exact ⟨rfl, rfl, rfl, rfl⟩
  case inr.inr.inl =>
    rcases s.runRender_cases buf len with ⟨r, -, e⟩ | ⟨-, -, -, e⟩ <;> rw [e]
    · exact ⟨rfl, rfl, rfl, rfl⟩
    · rw [State.complete_accept]
      exact ⟨rfl, rfl, rfl, rfl⟩
  all_goals exact ⟨rfl, rfl, rfl, rfl⟩

theorem step_sameConfig {s t : State} (h : step s = .next t) : s.SameConfig t := by
  cases stepCase_of_step h with
  | event u l v nx hbusy hseq hu hrow => obtain ⟨r, m, w, hs, -, -, rfl⟩ := hu; exact ⟨rfl, rfl, rfl, rfl⟩
  | wait u hbusy hu => obtain ⟨r, m, w, hs, -, -, rfl⟩ := hu; exact ⟨rfl, rfl, rfl, rfl⟩
  | byte | pad | frame | accept | setup => exact ⟨rfl, rfl, rfl, rfl⟩

/-- Settles O49. -/
theorem configurationNeverChanges : Obligations.ConfigurationNeverChanges :=
  ⟨fun _ _ _ => exec_sameConfig, fun _ _ => step_sameConfig⟩

/-! ### The shape, update by update -/

/-- Both stages of the chain have `cb` bits (R35, R36). -/
def Bank.Sized (cb : Nat) (b : Bank) : Prop := b.shift.length = cb ∧ b.latch.length = cb

theorem Bank.setLine_sized {cb : Nat} {b : Bank} (h : b.Sized cb) (l : Line) (v : Bool) : (b.setLine cb l v).Sized cb :=
  ⟨Bank.setLine_shift_length cb v b l h.1, Bank.setLine_latch_length cb v b l h.1 h.2⟩

theorem Bank.replay_sized {cb : Nat} {b : Bank} (h : b.Sized cb) (es : List Event) : (Bank.replay cb es b).Sized cb :=
  Bank.replay_keeps (P := Bank.Sized cb) (fun l v _ hb => Bank.setLine_sized hb l v) es h

namespace State.Shape
variable {s : State}

theorem bank_sized (h : s.Shape) : s.bank.Sized s.par.chainBits := ⟨h.shiftBits, h.latchBits⟩

theorem withScan (h : s.Shape) {r : Scan} (hcount : r.count ≤ s.cfg.n) (hframe : r.frame.length = s.cfg.n) :
    (s.withScan r).Shape := { h with emitted := hcount, frame := hframe }

theorem withBank (h : s.Shape) {b : Bank} (hb : b.Sized s.par.chainBits) : (s.withBank b).Shape :=
  { h with shiftBits := hb.1, latchBits := hb.2 }

theorem withRequest (h : s.Shape) {buf : List Byte} {len : Nat} (hlen : len ≤ buf.length) :
    (s.withRequest (Memory.load buf) len).Shape := { h with memory := Memory.load_wf buf, length := hlen }

theorem withSeq (h : s.Shape) (x : Seq) : (s.withSeq x).Shape := { h with }
theorem withHost (h : s.Shape) (x : List HostInput) : (s.withHost x).Shape := { h with }
theorem withVerdict (h : s.Shape) (x : Verdict) : (s.withVerdict x).Shape := { h with }
theorem withRet (h : s.Shape) (x : Ret) : (s.withRet x).Shape := { h with }

theorem setLine (h : s.Shape) (l : Line) (v : Bool) : (s.setLine l v).Shape := h.withBank (Bank.setLine_sized h.bank_sized l v)

theorem scanStep (h : s.Shape) {cls : ByteClass} (hgo : s.scan.goesOn s.cfg.n = true) :
    (s.withScan (s.scan.step s.table cls)).Shape :=
  h.withScan (Scan.step_count_le _ _ _ (Scan.goesOn_iff.mp hgo).1) (by rw [Scan.step_frame_length, h.frame])

theorem renderFrame (h : s.Shape) (buf : List Byte) (len : Nat) : (s.renderFrame buf len).Shape :=
  h.withScan renderScan_count_le (renderScan_frame_length h.frame)

theorem accept (h : s.Shape) {buf : List Byte} {len : Nat} (hlen : len ≤ buf.length) : (s.accept buf len).Shape :=
  (((h.withRequest hlen).withScan (r := s.scan.start len) (Nat.zero_le _) h.frame).withSeq _).withVerdict _

theorem hostOnly (h : s.Shape) {t : State} (ht : s.HostOnly t) : t.Shape := by
  obtain ⟨r, m, v, hs, hsize, hwf, rfl⟩ := ht
  exact { h with memory := hwf h.memory, length := hsize ▸ h.length }

end State.Shape

/-- Settles O56: the bank changes by line events, which keep the sizes of the chain; the scan's registers change by a step of the
scan or by renderFrame; the request is written by a Render alone. -/
theorem instructionsKeepTheShape : Obligations.InstructionsKeepTheShape := by
  intro i s t h hex
  obtain ⟨es, hes⟩ := exec_bank_eq_replay hex
  have hbank : t.bank.Sized s.par.chainBits := hes ▸ Bank.replay_sized h.bank_sized es
  rcases exec_next_cases hex with ⟨c, rfl⟩ | rfl | ⟨buf, len, rfl⟩ | ⟨buf, len, -, rfl⟩ | ⟨x, rfl⟩ | ⟨v, rfl⟩ | ⟨p, rfl⟩ | rfl |
    ⟨f, rfl⟩ | ⟨l, v, rfl⟩
  case inl =>
    by_cases hgo : s.scan.goesOn s.cfg.n = true
    · rw [State.scanStep_of_goesOn hgo]; exact h.scanStep hgo
    · rw [State.scanStep, if_neg hgo]; exact h
  case inr.inl =>
    rcases s.runSetup_cases with ⟨r, -, e⟩ | ⟨-, -, -, e⟩ <;> rw [e]
    · exact h.withVerdict _
    · exact ((h.setLine _ _).withSeq _).withVerdict _
  case inr.inr.inl =>
    rcases s.runRender_cases buf len with ⟨r, -, e⟩ | ⟨-, -, hlen, e⟩ <;> rw [e] at hbank ⊢
    · exact h.withVerdict _
    · exact (((h.accept hlen).renderFrame _ _).withBank hbank).withSeq _
  case inr.inr.inr.inl => exact h.renderFrame buf len
  case inr.inr.inr.inr.inl => exact h.withRet x
  all_goals exact h.withBank hbank

/-! ### The invariant of the machine -/

theorem Cfg.valid_iff (c : Cfg) :
    c.valid = true ↔ 1 ≤ c.n ∧ [c.pinData, c.pinClock, c.pinStrobe, c.pinOe].Nodup := decide_eq_true_iff

namespace State.Inv
variable {s : State}

theorem valid_of_busy (h : s.Inv) (hb : s.busy = true) : s.cfg.valid = true :=
  h.configured (State.busy_eq_true_iff.mp hb).1

/-- A block in flight has at least one digit. -/
theorem digits_pos (h : s.Inv) (hseq : s.seq = .compute) : 0 < s.cfg.n :=
  ((Cfg.valid_iff _).mp (h.configured (by simp [hseq]))).1

theorem hostOnly (h : s.Inv) {t : State} (ht : s.HostOnly t) : t.Inv := by
  have hshape := h.toShape.hostOnly ht
  obtain ⟨r, m, v, hs, -, -, rfl⟩ := ht
  exact { hshape with position := h.position, slot := h.slot, configured := h.configured, startup := h.startup }

/-- The block leaves COMPUTE for the first bit of the first slot. -/
theorem withScan_startShift (h : s.Inv) (hseq : s.seq = .compute) {r : Scan} (hcount : r.count ≤ s.cfg.n)
    (hframe : r.frame.length = s.cfg.n) (hi : r.i ≤ s.len) : ((s.withScan r).withSeq (.shift 0 0 .clkLow)).Inv :=
  { (h.toShape.withScan hcount hframe).withSeq _ with
    position := hi
    slot := fun _ _ _ hx => by cases hx; exact h.digits_pos hseq
    configured := fun _ => h.configured (by simp [hseq])
    startup := h.startup }

theorem setLine_withSeq (h : s.Inv) (hvalid : s.cfg.valid = true) (l : Line) (v : Bool) {nx : Seq}
    (hslot : ∀ j k ph, nx = .shift j k ph → j < s.cfg.n) : ((s.setLine l v).withSeq nx).Inv :=
  { (h.toShape.setLine l v).withSeq nx with
    position := h.position
    slot := hslot
    configured := fun _ => hvalid
    startup := h.startup }

end State.Inv

/-- Settles O54, by the cases of a step. -/
theorem stepKeepsTheInvariant : Obligations.StepKeepsTheInvariant := by
  intro s t h hstep
  cases stepCase_of_step hstep with
  | byte cls hseq hgo =>
    exact
      { h.toShape.scanStep (cls := cls) hgo with
        position := by
          rw [State.withScan_scan, Scan.step_i]
          exact (Nat.sub_le _ _).trans h.position
        slot := h.slot
        configured := h.configured
        startup := h.startup }
  | pad hseq => exact h.withScan_startShift hseq h.emitted (Scan.pad_frame_length h.emitted h.frame) h.position
  | frame hseq hlen =>
    exact h.withScan_startShift hseq renderScan_count_le (renderScan_frame_length h.frame) renderScan_i_le
  | event u l v nx hbusy hseq hu hrow =>
    have hvalid : u.cfg.valid = true := hu.cfg_eq ▸ h.valid_of_busy hbusy
    exact (h.hostOnly hu).setLine_withSeq hvalid l v hrow.slot
  | wait u hbusy hu => exact h.hostOnly hu
  | accept buf len rest hseq hlen =>
    exact
      { (h.toShape.accept hlen).withHost rest with
        position := Nat.le_refl len
        slot := fun _ _ _ hx => nomatch hx
        configured := fun _ => h.configured (by simp [hseq])
        startup := h.startup }
  | setup rest hvalid hseq => 
    have hidle := h.setLine_withSeq hvalid .oe s.par.oeSetupLevel (nx := .idle) fun _ _ _ hx => nomatch hx
    exact hidle.hostOnly ⟨_, _, _, _, rfl, id, rfl⟩

end Sys2Proof.Machine
end

section
/-! PROOFS. The line disciplines (R33, R192, R233), the events of a step (R34), the input buffer (R50, R67), and the reset state
(R290, R38). -/

namespace Sys2Proof.Machine

/-! ### The events of a step -/

/-- Settles O48, by the cases of a step: the row of a block in flight and the Setup make one event, the other cases none. -/
theorem stepMakesAtMostOneEvent : Obligations.StepMakesAtMostOneEvent := by
  intro s t hstep
  cases stepCase_of_step hstep with
  | byte cls hseq hgo => exact ⟨[], (List.append_nil _).symm, by simp, fun _ => rfl, fun _ h => absurd hseq h⟩
  | pad hseq => exact ⟨[], (List.append_nil _).symm, by simp, fun _ => rfl, fun _ h => absurd hseq h⟩
  | frame hseq hlen => exact ⟨[], (List.append_nil _).symm, by simp, fun _ => rfl, fun _ h => absurd hseq h⟩
  | event u l v nx hbusy hseq hu hrow =>
    refine ⟨[(l, v)], ?_, Nat.le_refl 1, fun h => absurd h hseq, fun _ _ => rfl⟩
    rw [State.withSeq_bank, State.setLine_bank, Bank.setLine_trace, hu.bank_eq]
  | wait u hbusy hu =>
    exact ⟨[], by rw [hu.bank_eq, List.append_nil], by simp, fun _ => rfl, fun h => by simp [hbusy] at h⟩
  | accept buf len rest hseq hlen =>
    exact ⟨[], (List.append_nil _).symm, by simp, fun _ => rfl, fun h => by simp [State.busy, hseq] at h⟩
  | setup rest hvalid hseq =>
    exact ⟨[(.oe, s.par.oeSetupLevel)], rfl, Nat.le_refl 1, fun h => by simp [hseq] at h,
      fun h => by simp [State.busy, hseq] at h⟩

/-! ### STROBE -/

theorem Bank.setLine_strobe_of_ne {cb : Nat} {l : Line} (hl : l ≠ .strobe) (v : Bool) (b : Bank) :
    (b.setLine cb l v).lv.strobe = b.lv.strobe := Lines.get_set_other b.lv v (l' := .strobe) hl.symm

theorem Bank.setLine_oe_of_ne {cb : Nat} {l : Line} (hl : l ≠ .oe) (v : Bool) (b : Bank) :
    (b.setLine cb l v).lv.oe = b.lv.oe := Lines.get_set_other b.lv v (l' := .oe) hl.symm

/-- Settles O57: only the row of STROBE_HIGH raises STROBE, and its next SEQ is STROBE_LOW. -/
theorem strobeStaysQuiet : Obligations.StrobeStaysQuiet := by
  intro s t h hstep
  cases stepCase_of_step hstep with
  | byte cls hseq hgo => exact h
  | pad hseq => exact fun _ => h (by simp [hseq])
  | frame hseq hlen => exact fun _ => h (by simp [hseq])
  | event u l v nx hbusy hseq hu hrow =>
    intro hnx
    rw [State.withSeq_bank, State.setLine_bank]
    rcases hrow.strobe with hlow | ⟨rfl, rfl⟩ | ⟨hl, hout⟩
    · exact absurd hlow hnx
    · rfl
    · rw [Bank.setLine_strobe_of_ne hl, hu.bank_eq]
      exact h (hu.seq_eq ▸ hout)
  | wait u hbusy hu => exact fun hnx => hu.bank_eq ▸ h (hu.seq_eq ▸ hnx)
  | accept buf len rest hseq hlen => exact fun _ => h (by simp [hseq])
  | setup rest hvalid hseq => exact fun _ => h (by simp [hseq])

/-! ### OE -/

theorem eventCount_append (l : Line) (es es' : List Event) :
    eventCount l (es ++ es') = eventCount l es + eventCount l es' := List.countP_append

theorem eventCount_singleton_of_ne {l l' : Line} (h : l' ≠ l) (v : Bool) : eventCount l [(l', v)] = 0 := by
  simp [eventCount, h]

/-- The discipline depends on the trace's OE events, the level of OE and whether the block is set up, and on nothing else. -/
theorem State.OeDrivenOnce.of_eq {s t : State} (h : s.OeDrivenOnce) (hseq : t.seq = .unconfigured ↔ s.seq = .unconfigured)
    (hcount : eventCount .oe t.bank.trace = eventCount .oe s.bank.trace) (hlevel : t.bank.lv.oe = s.bank.lv.oe)
    (hpar : t.par = s.par) : t.OeDrivenOnce := by
  rw [State.OeDrivenOnce, hcount, hlevel, hpar]
  exact ⟨fun ht => h.1 (hseq.mp ht), fun ht => h.2 (mt hseq.mpr ht)⟩

/-- Settles O58: no row of a block in flight drives OE, and the one Setup that is accepted leaves UNCONFIGURED. -/
theorem oeStaysDrivenOnce : Obligations.OeStaysDrivenOnce := by
  intro s t h hstep
  cases stepCase_of_step hstep with
  | byte cls hseq hgo => exact h
  | pad hseq => exact h.of_eq (by simp [hseq]) rfl rfl rfl
  | frame hseq hlen => exact h.of_eq (by simp [hseq]) rfl rfl rfl
  | event u l v nx hbusy hseq hu hrow =>
    have hset : s.seq ≠ .unconfigured := (State.busy_eq_true_iff.mp hbusy).1
    refine h.of_eq (by simp [hrow.setUp, hset]) ?_ ?_ hu.par_eq
    · rw [State.withSeq_bank, State.setLine_bank, Bank.setLine_trace, eventCount_append,
        eventCount_singleton_of_ne hrow.notOe, hu.bank_eq, Nat.add_zero]
    · rw [State.withSeq_bank, State.setLine_bank, Bank.setLine_oe_of_ne hrow.notOe, hu.bank_eq]
  | wait u hbusy hu => exact h.of_eq (by rw [hu.seq_eq]) (by rw [hu.bank_eq]) (by rw [hu.bank_eq]) hu.par_eq
  | accept buf len rest hseq hlen => exact h.of_eq (by simp [State.accept, hseq]) rfl rfl rfl
  | setup rest hvalid hseq =>
    have hnone : eventCount .oe s.bank.trace = 0 := h.1 hseq
    refine ⟨fun ht => (nomatch ht), fun _ => ⟨?_, rfl⟩⟩
    change eventCount .oe (s.bank.trace ++ [(.oe, s.par.oeSetupLevel)]) = 1
    rw [eventCount_append, hnone]
    rfl

/-! ### The levels and the trace -/

/-- `LevelsFollowTrace`, of the line side alone. -/
def Bank.LevelsFollowTrace (b : Bank) : Prop := ∀ l v, lastLevel l b.trace = some v → b.lv.get l = v

theorem lastLevel_append_same (l : Line) (v : Bool) (es : List Event) : lastLevel l (es ++ [(l, v)]) = some v := by
  simp [lastLevel]

theorem lastLevel_append_other {l l' : Line} (h : l' ≠ l) (v : Bool) (es : List Event) :
    lastLevel l (es ++ [(l', v)]) = lastLevel l es := by
  simp [lastLevel, h]

theorem Bank.setLine_levelsFollowTrace {b : Bank} (h : b.LevelsFollowTrace) (cb : Nat) (l : Line) (v : Bool) :
    (b.setLine cb l v).LevelsFollowTrace := by
  intro l' v' hlast
  rw [Bank.setLine_trace] at hlast
  rw [Bank.setLine_lv]
  by_cases hl : l = l'
  · subst hl
    rw [lastLevel_append_same] at hlast
    rw [Lines.get_set_same, Option.some.inj hlast]
  · rw [lastLevel_append_other hl] at hlast
    rw [Lines.get_set_other _ _ (Ne.symm hl), h l' v' hlast]

/-- Settles O59: the line side changes by SetLines alone, and each of them keeps the agreement. -/
theorem levelsKeepFollowingTheTrace : Obligations.LevelsKeepFollowingTheTrace := by
  refine ⟨fun i s t h hex => ?exec, fun s t h hstep => ?step⟩
  case exec =>
    obtain ⟨es, hes⟩ := exec_bank_eq_replay hex
    have hbank : t.bank.LevelsFollowTrace :=
      hes ▸ Bank.replay_keeps (P := Bank.LevelsFollowTrace) (fun l v _ hb => Bank.setLine_levelsFollowTrace hb _ l v) es h
    exact hbank
  case step =>
    cases stepCase_of_step hstep with
    | event u l v nx hbusy hseq hu hrow =>
      have hbank : u.bank.LevelsFollowTrace := hu.bank_eq ▸ h
      exact Bank.setLine_levelsFollowTrace hbank _ l v
    | wait u hbusy hu =>
      have hbank : t.bank.LevelsFollowTrace := hu.bank_eq ▸ h
      exact hbank
    | setup rest hvalid hseq => exact Bank.setLine_levelsFollowTrace h _ _ _
    | byte | pad | frame | accept => exact h

/-! ### The input buffer -/

/-- Outside COMPUTE the buffer after a step is what the host's input left: the block's own event does not touch it. -/
theorem step_input {s t : State} (hseq : s.seq ≠ .compute) (h : step s = .next t) : t.input = s.landNext.input := by
  rcases step_next_cases h with ⟨hc, -⟩ | ⟨hc, -⟩ | ⟨-, hb, hstep⟩ | ⟨-, rfl⟩
  · exact absurd hc hseq
  · exact absurd hc hseq
  · have hu := State.landNext_hostOnly hb
    obtain ⟨l, v, nx, -, rfl⟩ := State.blockStep_eventRow (hu.busy_eq.trans hb) (hu.seq_eq ▸ hseq) hstep
    rfl
  · rfl

/-- Settles O50. -/
theorem bufferReadsBack : Obligations.BufferReadsBack := by
  refine ⟨Memory.read_load, fun s t a b rest hwf hseq hhost hstep x => ?_⟩
  have hinput : s.landNext.input = s.input.write a b := by rw [State.landNext_of_cons hhost]; rfl
  rw [step_input hseq hstep, hinput, Memory.read_write hwf]
  by_cases hx : a = x
  · simp [hx]
  · simp [hx, Ne.symm hx]

/-! ### Reset -/

/-- Settles O51. -/
theorem resetAsTheSpecGives : Obligations.ResetAsTheSpecGives := by
  refine ⟨rfl, rfl, rfl, rfl, rfl, ?entry, rfl, rfl⟩
  case entry => simp [State.reset, State.startup, defaultTable]

theorem defaultTable_length : defaultTable.length = 47 := by
  rw [defaultTable, List.length_map, List.length_range]

theorem reset_inv : State.reset.Inv where
  memory := rfl
  length := Nat.le_refl 0
  emitted := Nat.zero_le _
  frame := List.length_replicate
  shiftBits := List.length_replicate
  latchBits := List.length_replicate
  entries := defaultTable_length
  position := Nat.le_refl 0
  slot := fun _ _ _ h => nomatch h
  configured := fun h => absurd rfl h
  startup := rfl

/-- Settles O53: the trace is empty, STROBE is low, and the block is UNCONFIGURED. -/
theorem resetMeetsTheInvariants : Obligations.ResetMeetsTheInvariants :=
  ⟨reset_inv, fun _ => rfl, ⟨fun _ => rfl, fun h => absurd rfl h⟩, fun _ _ h => nomatch h⟩

/-- Settles O52: READY lands in the first step, and the Setup, whose conditions then hold, in the second. -/
theorem stateAfterSetup : Obligations.StateAfterSetup := by
  refine ⟨_, rfl, rfl, rfl, rfl, rfl, rfl, rfl⟩

end Sys2Proof.Machine
end

section
/-! PROOFS. The host transactions (42_renderer.md, 60_exceptions.md, 70_reset_and_hazards.md section 1): what refuses them, and
what an accepted one does. -/

namespace Sys2Proof.Machine

/-! ### Operands without a meaning -/

theorem exec_renderframe_of_le {buf : List Byte} {len : Nat} (h : len ≤ buf.length) (s : State) :
    exec (.renderframe buf len) s = .next (s.renderFrame buf len) := if_pos h

theorem exec_renderframe_of_gt {buf : List Byte} {len : Nat} (h : buf.length < len) (s : State) :
    exec (.renderframe buf len) s = .refused .lengthBeyondBuffer := if_neg (Nat.not_le.mpr h)

theorem exec_transmitframe_of_ne {f : List Pattern} {s : State} (h : f.length ≠ s.cfg.n) :
    exec (.transmitframe f) s = .refused .notAFrame := if_neg h

/-- Settles O18. -/
theorem operandsWithoutMeaningAreRefused : Obligations.OperandsWithoutMeaningAreRefused :=
  fun s _ _ _ => ⟨exec_transmitframe_of_ne, fun h => exec_renderframe_of_gt h s⟩

/-! ### Setup -/

theorem exec_setup (s : State) : exec .setup s = .next s.runSetup := rfl

theorem State.runSetup_of_refusal {s : State} {rs : List Reason} (h : s.setupRefusal = some rs) :
    s.runSetup = s.refuse rs := by
  rw [State.runSetup, h]

theorem State.runSetup_accepted {s : State} (hv : s.cfg.valid = true) (hr : s.ready = true) (hs : s.seq = .unconfigured) :
    s.runSetup = ((s.setLine .oe s.par.oeSetupLevel).withSeq .idle).withVerdict .accepted := by
  rw [State.runSetup, State.setupRefusal_none.mpr ⟨hv, hr, hs⟩]

/-- OE has no edge that the chain reacts to (R242). -/
theorem Bank.setLine_oe (cb : Nat) (v : Bool) (b : Bank) :
    b.setLine cb .oe v = { b with lv := { b.lv with oe := v }, trace := b.trace ++ [(.oe, v)] } := rfl

/-- Settles O38. -/
theorem setupDrivesOeOnce : Obligations.SetupDrivesOeOnce := by
  intro s hn hpins hr hs
  rw [exec_setup, State.runSetup_accepted ((Cfg.valid_iff _).mpr ⟨hn, hpins⟩) hr hs, State.setLine, Bank.setLine_oe]
  rfl

/-! ### Which reason refuses Render and HostWrite -/

theorem State.portRefusal_unconfigured {s : State} (hs : s.seq = .unconfigured) : s.portRefusal = some [.notSetUp] :=
  if_pos hs

theorem State.portRefusal_notReady {s : State} (hs : s.seq ≠ .unconfigured) (hr : s.ready = false) :
    s.portRefusal = some [.notReady] := by
  rw [State.portRefusal, if_neg hs, if_pos hr]

theorem State.portRefusal_busy {s : State} (hr : s.ready = true) (hb : s.busy = true) : s.portRefusal = some [.busy] := by
  rw [State.portRefusal, if_neg (State.busy_eq_true_iff.mp hb).1, if_neg (by simp [hr]), if_pos hb]

theorem State.portRefusal_idle {s : State} (hr : s.ready = true) (hs : s.seq = .idle) : s.portRefusal = none := by
  simp [State.portRefusal, State.busy, hr, hs]

theorem State.renderRefusal_of_port {s : State} {rs : List Reason} (h : s.portRefusal = some rs) (buf : List Byte) (len : Nat) :
    s.renderRefusal buf len = some rs := by
  rw [State.renderRefusal, h]

theorem State.renderRefusal_of_length {s : State} (h : s.portRefusal = none) {buf : List Byte} {len : Nat}
    (hlen : buf.length < len) : s.renderRefusal buf len = some [.lengthExceedsBuffer] := by
  rw [State.renderRefusal, h]
  exact if_pos hlen

theorem State.runRender_of_refusal {s : State} {buf : List Byte} {len : Nat} {rs : List Reason}
    (h : s.renderRefusal buf len = some rs) : s.runRender buf len = s.refuse rs := by
  rw [State.runRender, h]

/-- A reason of the port refuses Render and HostWrite alike (R160, R262). -/
theorem exec_of_portRefusal {s : State} {rs : List Reason} (h : s.portRefusal = some rs) {i : Instr}
    (hi : (∃ buf len, i = .render buf len) ∨ ∃ buf, i = .hostwrite buf) : exec i s = .next (s.refuse rs) := by
  rcases hi with ⟨buf, len, rfl⟩ | ⟨buf, rfl⟩
  · rw [exec_render, State.runRender_of_refusal (State.renderRefusal_of_port h buf len)]
  · rw [exec_hostwrite, exec_render, State.runRender_of_refusal (State.renderRefusal_of_port h buf _)]

/-- Settles O40. -/
theorem renderRefusalsLeaveTheState : Obligations.RenderRefusalsLeaveTheState := by
  intro s buf len i hi
  have hi' : (∃ buf len, i = .render buf len) ∨ ∃ buf, i = .hostwrite buf :=
    hi.imp (fun h => ⟨buf, len, h⟩) fun h => ⟨buf, h⟩
  refine ⟨fun hs => ?notSetUp, fun hs hr => ?notReady, fun hs hr hidle => ?busy, fun hs hr hrender hlen => ?length⟩
  case notSetUp => exact exec_of_portRefusal (State.portRefusal_unconfigured hs) hi'
  case notReady => exact exec_of_portRefusal (State.portRefusal_notReady hs hr) hi'
  case busy => exact exec_of_portRefusal (State.portRefusal_busy hr (State.busy_eq_true_iff.mpr ⟨hs, hidle⟩)) hi'
  case length =>
    rw [hrender, exec_render,
      State.runRender_of_refusal (State.renderRefusal_of_length (State.portRefusal_idle hr hs) hlen)]
    rfl

/-! ### Illegal configurations -/

theorem Cfg.valid_eq_false_iff (c : Cfg) :
    c.valid = false ↔ c.n = 0 ∨ ¬ [c.pinData, c.pinClock, c.pinStrobe, c.pinOe].Nodup := by
  rw [← Bool.not_eq_true, Cfg.valid_iff, not_and_or]
  exact or_congr_left (by omega)

theorem State.configRefusal_of_refused {s : State} (h : s.configRefused = true) :
    s.configRefusal = [.badConfig, .notSetUp] := by
  rw [State.configRefusal, if_pos h]

theorem State.configRefusal_of_not_refused {s : State} (h : s.configRefused = false) : s.configRefusal = [.badConfig] := by
  rw [State.configRefusal, if_neg (by simp [h])]

theorem State.setupRefusal_notReady {s : State} (hv : s.cfg.valid = true) (hr : s.ready = false) :
    s.setupRefusal = some [.notReady] := by
  simp [State.setupRefusal, hv, hr]

theorem State.setupRefusal_alreadySetUp {s : State} (hv : s.cfg.valid = true) (hr : s.ready = true)
    (hs : s.seq ≠ .unconfigured) : s.setupRefusal = some [.alreadySetUp] := by
  simp [State.setupRefusal, hv, hr, hs]

/-- In an illegal configuration no step leaves UNCONFIGURED: only an accepted Setup would (R264). -/
theorem step_stays_unconfigured {s t : State} (hv : s.cfg.valid = false) (hs : s.seq = .unconfigured)
    (h : step s = .next t) : t.seq = .unconfigured := by
  cases stepCase_of_step h with
  | byte cls hseq hgo => simp [hs] at hseq
  | pad hseq => simp [hs] at hseq
  | frame hseq hlen => simp [hs] at hseq
  | event u l v nx hbusy hseq hu hrow => exact absurd hs (State.busy_eq_true_iff.mp hbusy).1
  | wait u hbusy hu => exact hu.seq_eq.trans hs
  | accept buf len rest hseq hlen => simp [hs] at hseq
  | setup rest hvalid hseq => simp [hv] at hvalid

/-- Settles O39. -/
theorem setupRefusalsLeaveTheState : Obligations.SetupRefusalsLeaveTheState := by
  refine ⟨fun cfg par table hbad => ?startup, fun s hbad href hs => ⟨?setup, fun i hi => ?render, fun t hstep => ?stays⟩,
    fun s => ⟨fun hbad href => ?badConfig, fun hv hr => ?notReady, fun hv hr hs => ?alreadySetUp⟩⟩
  case startup =>
    obtain ⟨href, hverdict⟩ := State.startup_illegal ((Cfg.valid_eq_false_iff cfg).mpr hbad) par table
    exact ⟨hverdict, href, rfl, rfl⟩
  case setup =>
    have hrefusal := State.setupRefusal_illegal ((Cfg.valid_eq_false_iff _).mpr hbad)
    rw [exec_setup, State.runSetup_of_refusal hrefusal, State.configRefusal_of_refused href]
    rfl
  case render => exact exec_of_portRefusal (State.portRefusal_unconfigured hs) hi
  case stays =>
    obtain ⟨hcfg, hrefused, -, -⟩ := step_sameConfig hstep
    exact ⟨hcfg, hrefused.trans href, step_stays_unconfigured ((Cfg.valid_eq_false_iff _).mpr hbad) hs hstep⟩
  case badConfig =>
    have hrefusal := State.setupRefusal_illegal ((Cfg.valid_eq_false_iff _).mpr hbad)
    rw [exec_setup, State.runSetup_of_refusal hrefusal, State.configRefusal_of_not_refused href]
    rfl
  case notReady =>
    rw [exec_setup, State.runSetup_of_refusal (State.setupRefusal_notReady hv hr)]
    rfl
  case alreadySetUp =>
    rw [exec_setup, State.runSetup_of_refusal (State.setupRefusal_alreadySetUp hv hr hs)]
    rfl

/-! ### An accepted Render -/

theorem exec_render_accepted {s : State} (hs : s.seq = .idle) (hr : s.ready = true) {buf : List Byte} {len : Nat}
    (hlen : len ≤ buf.length) : exec (.render buf len) s = .next (s.accept buf len).complete := by
  rw [exec_render, State.runRender_accepted hs hr hlen]

/-- Settles O35. -/
theorem renderRunsToCompletion : Obligations.RenderRunsToCompletion := by
  intro s buf len hs hr hlen hframe
  refine ⟨renderScan s.cfg.n s.table s.par.whitespace buf len s.scan, _, Memory.load buf, exec_renderframe_of_le hlen s,
    exec_transmitframe_of_length (renderScan_frame_length hframe), ⟨Memory.load_size buf, Memory.read_load buf⟩, ?_⟩
  rw [exec_render_accepted hs hr hlen, State.complete_accept]

/-- A Render within its buffer, and any HostWrite, is accepted by an idle READY block and runs to completion. -/
theorem exec_accepted {s : State} (hs : s.seq = .idle) (hr : s.ready = true) {i : Instr}
    (hi : (∃ buf len, i = .render buf len ∧ len ≤ buf.length) ∨ ∃ buf, i = .hostwrite buf) :
    ∃ buf len, len ≤ buf.length ∧ exec i s = .next (s.accept buf len).complete := by
  rcases hi with ⟨buf, len, rfl, hlen⟩ | ⟨buf, rfl⟩
  · exact ⟨buf, len, hlen, exec_render_accepted hs hr hlen⟩
  · exact ⟨buf, _, hostLength_le_length s.cfg s.par buf, exec_hostwrite_accepted hs hr buf⟩

/-- Settles O37: the transaction's events are those of its frame. -/
theorem transactionMakesOneCommit : Obligations.TransactionMakesOneCommit := by
  intro s i hs hr hframe hi
  obtain ⟨buf, len, -, hex⟩ := exec_accepted hs hr hi
  rw [State.complete_accept] at hex
  have hlen : (renderScan s.cfg.n s.table s.par.whitespace buf len s.scan).frame.length = s.cfg.n :=
    renderScan_frame_length hframe
  refine ⟨_, hex, hlen, ?_, ?_⟩
  · rw [Bank.transmit_trace, frameEvents_eq, List.append_assoc]
  · rw [Bank.transmit_trace, List.length_append, frameEvents_length, hlen]

end Sys2Proof.Machine
end

section
/-! PROOFS. The sequencer (43_transmitter.md section 2): the rows of its table, and the run of a whole transmission. -/

namespace Sys2Proof.Machine

/-! ### The rows of R195 -/

namespace State
variable {s : State}

theorem issue_compute (hs : s.seq = .compute) (hlen : s.len ≤ s.input.size) :
    s.issue = .ok (some (.renderframe s.input.bytes s.len, .shift 0 0 .clkLow)) := by
  simp [issue, hs, hlen]

section Shift
variable {j : Nat} {k : Fin 8} {p : Pattern} (hj : j < s.cfg.n) (hp : s.scan.frame[j]? = some p)
include hj hp

theorem issue_clkLow (hs : s.seq = .shift j k .clkLow) : s.issue = .ok (some (.setline .clock false, .shift j k .dataSet)) := by
  simp [issue, hs, hp, hj.not_ge]

theorem issue_dataSet (hs : s.seq = .shift j k .dataSet) :
    s.issue = .ok (some (.setline .data (p.getLsbD k.val), .shift j k .clkHigh)) := by
  simp [issue, hs, hp, hj.not_ge]

theorem issue_clkHigh (hs : s.seq = .shift j k .clkHigh) :
    s.issue = .ok (some (.setline .clock true, seqAfterBit s.cfg.n j k)) := by
  simp [issue, hs, hp, hj.not_ge]

end Shift

theorem issue_strobeHigh (hs : s.seq = .strobeHigh) : s.issue = .ok (some (.setline .strobe true, .strobeLow)) := by
  simp [issue, hs]

theorem issue_strobeLow (hs : s.seq = .strobeLow) : s.issue = .ok (some (.setline .strobe false, .idle)) := by
  simp [issue, hs]

theorem busy_of_issue {i : Instr} {nx : Seq} (h : s.issue = .ok (some (i, nx))) : s.busy = true := by
  rw [busy_eq_true_iff]
  constructor <;> intro hs <;> simp [issue, hs] at h

theorem blockStep_of_issue {i : Instr} {nx : Seq} {t : State} (h : s.issue = .ok (some (i, nx))) (hex : exec i s = .next t) :
    s.blockStep = .next (t.withSeq nx) := by
  simp [blockStep, h, execThen, hex]

end State

theorem seqAfterBit_of_lt {n j : Nat} {k : Fin 8} (hk : k.val < 7) :
    seqAfterBit n j k = .shift j ⟨k.val + 1, by omega⟩ .clkLow := dif_pos hk

theorem seqAfterBit_nextSlot {n j : Nat} {k : Fin 8} (hk : k.val = 7) (hj : j + 1 < n) :
    seqAfterBit n j k = .shift (j + 1) 0 .clkLow := by
  rw [seqAfterBit, dif_neg (by omega), if_pos hj]

theorem seqAfterBit_lastSlot {n j : Nat} {k : Fin 8} (hk : k.val = 7) (hj : n ≤ j + 1) : seqAfterBit n j k = .strobeHigh := by
  rw [seqAfterBit, dif_neg (by omega), if_neg (by omega)]

/-- Settles O42. -/
theorem sequencerFollowsItsTable : Obligations.SequencerFollowsItsTable := by
  intro s t hhost hframe
  refine ⟨fun i nx hissue hgrain hex => ?runs, fun hs hlen => State.issue_compute hs hlen, fun j k p hp => ?rows,
    fun hs => State.issue_strobeHigh hs, fun hs => State.issue_strobeLow hs⟩
  case runs =>
    have hstep : step s = s.blockStep := by
      by_cases hs : s.seq = .compute
      · exact step_compute hs hgrain
      · exact step_busy_silent hhost hs (State.busy_of_issue hissue)
    rw [hstep, State.blockStep_of_issue hissue hex]
    rfl
  case rows =>
    have hj : j < s.cfg.n := hframe ▸ lt_length_of_getElem?_eq_some hp
    refine ⟨State.issue_clkLow hj hp, State.issue_dataSet hj hp, fun hs hk => ⟨⟨k.val + 1, by omega⟩, rfl, ?_⟩,
      fun hs hk hj' => ?_, fun hs hk hj' => ?_⟩ <;> rw [State.issue_clkHigh hj hp hs]
    · rw [seqAfterBit_of_lt hk]
    · rw [seqAfterBit_nextSlot hk hj']
    · rw [seqAfterBit_lastSlot hk hj'.ge]

/-! ### The byte-by-byte view of COMPUTE (log 11) -/

theorem step_byteGrain {s : State} (hs : s.seq = .compute) (hg : s.byteGrain = true) : step s = s.byteStep := by
  simp [step, machineStep, hs, hg]

theorem State.byteStep_of_read {s : State} {c : Byte} (hgo : s.scan.goesOn s.cfg.n = true)
    (hc : s.input.read (s.scan.i - 1) = some c) : s.byteStep = exec (decodeByte c) s := by
  simp [State.byteStep, hgo, hc, decode_cons]

theorem State.byteStep_of_stopped {s : State} (hstop : s.scan.goesOn s.cfg.n = false) :
    s.byteStep = .next ((s.withScan (s.scan.pad s.cfg.n)).withSeq (.shift 0 0 .clkLow)) := by
  simp [State.byteStep, hstop]

/-- Settles O41. -/
theorem stepRunsTheDecodedByte : Obligations.StepRunsTheDecodedByte := by
  intro s c i hs hg hcount hi hread hdec
  obtain ⟨rfl, -⟩ := Prod.mk.inj (Except.ok.inj hdec)
  rw [step_byteGrain hs hg, State.byteStep_of_read (Scan.goesOn_iff.mpr ⟨hcount, hi⟩) hread]

/-! ### Every state of the invariant steps on -/

theorem Memory.read_of_lt {m : Memory} {a : Nat} (h : a < m.size) : ∃ c, m.read a = some c := ⟨_, if_pos h⟩

theorem State.Inv.byteStep_next {s : State} (h : s.Inv) : ∃ t, s.byteStep = .next t := by
  cases hgo : s.scan.goesOn s.cfg.n with
  | false => exact ⟨_, State.byteStep_of_stopped hgo⟩
  | true =>
    obtain ⟨-, hi⟩ := Scan.goesOn_iff.mp hgo
    obtain ⟨c, hc⟩ : ∃ c, s.input.read (s.scan.i - 1) = some c :=
      Memory.read_of_lt (by have := h.position; have := h.length; omega)
    exact ⟨_, (State.byteStep_of_read hgo hc).trans (exec_decodeByte s c)⟩

theorem State.Inv.blockStep_next {s : State} (h : s.Inv) : ∃ t, s.blockStep = .next t := by
  cases hs : s.seq with
  | unconfigured => exact ⟨s, by simp [State.blockStep, State.issue, hs]⟩
  | idle => exact ⟨s, by simp [State.blockStep, State.issue, hs]⟩
  | compute =>
    have hlen : s.len ≤ s.input.bytes.length := s.input.bytes_length.symm ▸ h.length
    exact ⟨_, State.blockStep_of_issue (State.issue_compute hs h.length) (exec_renderframe_of_le hlen s)⟩
  | shift j k ph =>
    have hj : j < s.cfg.n := h.slot j k ph hs
    obtain ⟨p, hp⟩ : ∃ p, s.scan.frame[j]? = some p := ⟨_, List.getElem?_eq_getElem (h.frame.symm ▸ hj)⟩
    cases ph with
    | clkLow => exact ⟨_, State.blockStep_of_issue (State.issue_clkLow hj hp hs) (exec_setline _ _ s)⟩
    | dataSet => exact ⟨_, State.blockStep_of_issue (State.issue_dataSet hj hp hs) (exec_setline _ _ s)⟩
    | clkHigh => exact ⟨_, State.blockStep_of_issue (State.issue_clkHigh hj hp hs) (exec_setline _ _ s)⟩
  | strobeHigh => exact ⟨_, State.blockStep_of_issue (State.issue_strobeHigh hs) (exec_setline _ _ s)⟩
  | strobeLow => exact ⟨_, State.blockStep_of_issue (State.issue_strobeLow hs) (exec_setline _ _ s)⟩

theorem step_of_busy {s : State} (hs : s.seq ≠ .compute) (hb : s.busy = true) : step s = s.landNext.blockStep := by
  simp [step, machineStep, hs, hb]

theorem step_of_not_busy {s : State} (hb : s.busy = false) : step s = .next s.landNext := by
  have hs : s.seq ≠ .compute := fun hs => by simp [State.busy, hs] at hb
  simp [step, machineStep, hs, hb]

/-- Settles O55. -/
theorem invariantStatesStepOn : Obligations.InvariantStatesStepOn := by
  intro s h
  rw [State.StepsOn]
  by_cases hs : s.seq = .compute
  · cases hg : s.byteGrain with
    | true => rw [step_byteGrain hs hg]; exact h.byteStep_next
    | false => rw [step_compute hs hg]; exact h.blockStep_next
  · cases hb : s.busy with
    | true => rw [step_of_busy hs hb]; exact (h.hostOnly (State.landNext_hostOnly hb)).blockStep_next
    | false => exact ⟨_, step_of_not_busy hb⟩

/-! ### SEQ along a transmission -/

/-- The phases of a bit cell, in order. -/
def phaseAt : Nat → Phase
  | 0 => .clkLow
  | 1 => .dataSet
  | _ => .clkHigh

/-- SEQ once `q` of the 24×N + 2 events of an N-digit transmission are made (R195). -/
def seqAt (n q : Nat) : Seq :=
  if q < 24 * n then .shift (q / 24) ⟨q / 3 % 8, Nat.mod_lt _ (by decide)⟩ (phaseAt (q % 3))
  else if q = 24 * n then .strobeHigh
  else if q = 24 * n + 1 then .strobeLow
  else .idle

theorem seqAt_shift {n j : Nat} (hj : j < n) (k : Fin 8) {r : Nat} (hr : r < 3) :
    seqAt n (24 * j + 3 * k.val + r) = .shift j k (phaseAt r) := by
  have hk := k.isLt
  have hslot : (24 * j + 3 * k.val + r) / 24 = j := by omega
  have hbit : (24 * j + 3 * k.val + r) / 3 % 8 = k.val := by omega
  have hphase : (24 * j + 3 * k.val + r) % 3 = r := by omega
  simp only [seqAt, hslot, hbit, hphase]
  rw [if_pos (by omega)]

theorem seqAt_strobeHigh (n : Nat) : seqAt n (24 * n) = .strobeHigh := by simp [seqAt]
theorem seqAt_strobeLow (n : Nat) : seqAt n (24 * n + 1) = .strobeLow := by simp [seqAt]
theorem seqAt_idle (n : Nat) : seqAt n (24 * n + 2) = .idle := by simp [seqAt]

theorem seqAt_start {n : Nat} (hn : 0 < n) : seqAt n 0 = .shift 0 0 .clkLow := seqAt_shift hn 0 (r := 0) (by decide)

/-- After the three events of a bit SEQ is that of R195 for the next bit. -/
theorem seqAt_afterBit {n j : Nat} (hj : j < n) (k : Fin 8) : seqAt n (24 * j + 3 * k.val + 3) = seqAfterBit n j k := by
  rcases Nat.lt_or_ge k.val 7 with hk | hk
  · rw [seqAfterBit_of_lt hk]
    exact seqAt_shift hj ⟨k.val + 1, by omega⟩ (r := 0) (by decide)
  · have hk7 : k.val = 7 := by omega
    have hplace : 24 * j + 3 * k.val + 3 = 24 * (j + 1) := by omega
    rw [hplace]
    rcases Nat.lt_or_ge (j + 1) n with hj' | hj'
    · rw [seqAfterBit_nextSlot hk7 hj']
      exact seqAt_shift hj' 0 (r := 0) (by decide)
    · rw [seqAfterBit_lastSlot hk7 hj', show j + 1 = n by omega, seqAt_strobeHigh]

/-- Where in a transmission an event stands: in a bit cell, or in the commit. -/
theorem transmission_place {n q : Nat} (hq : q < 24 * n + 2) :
    (∃ j, j < n ∧ ∃ k : Fin 8, ∃ r, r < 3 ∧ q = 24 * j + 3 * k.val + r) ∨ q = 24 * n ∨ q = 24 * n + 1 := by
  rcases Nat.lt_or_ge q (24 * n) with hcell | hcommit
  · exact .inl ⟨q / 24, by omega, ⟨q / 3 % 8, by omega⟩, q % 3, by omega, by change q = 24 * _ + 3 * (q / 3 % 8) + _; omega⟩
  · exact .inr (by omega)

theorem seqAt_inFlight {n q : Nat} (hq : q < 24 * n + 2) :
    seqAt n q ≠ .unconfigured ∧ seqAt n q ≠ .idle ∧ seqAt n q ≠ .compute := by
  rcases transmission_place hq with ⟨j, hj, k, r, hr, rfl⟩ | rfl | rfl
  · simp [seqAt_shift hj k hr]
  · simp [seqAt_strobeHigh]
  · simp [seqAt_strobeLow]

/-- The row of the table at place `q` of a transmission makes event `q` of the frame. -/
theorem State.blockStep_at {s : State} {q : Nat} (hframe : s.scan.frame.length = s.cfg.n) (hq : q < 24 * s.cfg.n + 2)
    (hs : s.seq = seqAt s.cfg.n q) : ∃ l v, (frameEvents s.scan.frame)[q]? = some (l, v) ∧
      s.blockStep = .next ((s.setLine l v).withSeq (seqAt s.cfg.n (q + 1))) := by
  obtain ⟨hfirst, hsecond⟩ := frameEvents_getElem?_commit s.scan.frame
  rw [hframe] at hfirst hsecond
  rcases transmission_place hq with ⟨j, hj, k, r, hr, rfl⟩ | rfl | rfl
  · obtain ⟨p, hp⟩ : ∃ p, s.scan.frame[j]? = some p := ⟨_, List.getElem?_eq_getElem (hframe.symm ▸ hj)⟩
    obtain ⟨hlow, hdata, hhigh⟩ := frameEvents_getElem? hp k.isLt
    rw [seqAt_shift hj k hr] at hs
    obtain rfl | rfl | rfl : r = 0 ∨ r = 1 ∨ r = 2 := by omega
    · exact ⟨_, _, hlow, seqAt_shift hj k (r := 1) (by decide) ▸
        State.blockStep_of_issue (State.issue_clkLow hj hp hs) (exec_setline _ _ s)⟩
    · exact ⟨_, _, hdata, seqAt_shift hj k (r := 2) (by decide) ▸
        State.blockStep_of_issue (State.issue_dataSet hj hp hs) (exec_setline _ _ s)⟩
    · exact ⟨_, _, hhigh, seqAt_afterBit hj k ▸
        State.blockStep_of_issue (State.issue_clkHigh hj hp hs) (exec_setline _ _ s)⟩
  · rw [seqAt_strobeHigh] at hs
    exact ⟨_, _, hfirst, seqAt_strobeLow s.cfg.n ▸
      State.blockStep_of_issue (State.issue_strobeHigh hs) (exec_setline _ _ s)⟩
  · rw [seqAt_strobeLow] at hs
    exact ⟨_, _, hsecond, seqAt_idle s.cfg.n ▸
      State.blockStep_of_issue (State.issue_strobeLow hs) (exec_setline _ _ s)⟩

/-! ### The run of a transmission -/

/-- The line side after the first `q` events of the transmission of F. -/
def State.bankAfter (s : State) (q : Nat) : Bank := Bank.replay s.par.chainBits ((frameEvents s.scan.frame).take q) s.bank

theorem State.bankAfter_succ {s : State} {q : Nat} {l : Line} {v : Bool} (h : (frameEvents s.scan.frame)[q]? = some (l, v)) :
    s.bankAfter (q + 1) = (s.bankAfter q).setLine s.par.chainBits l v := by
  rw [State.bankAfter, List.take_add_one, h, Bank.replay_append]
  rfl

theorem State.bankAfter_all {s : State} {q : Nat} (hframe : s.scan.frame.length = s.cfg.n) (hq : 24 * s.cfg.n + 2 ≤ q) :
    s.bankAfter q = s.bank.transmit s.par.chainBits s.scan.frame := by
  rw [State.bankAfter, List.take_of_length_le (by rw [frameEvents_length, hframe]; exact hq), Bank.replay_frameEvents]

/-- `t` is `s` after the first `q` events of the transmission of its frame, with what the host side did meanwhile, which is
nothing where no input is to come. -/
def State.Transmits (s : State) (q : Nat) (t : State) : Prop :=
  ∃ u, s.HostOnly u ∧ (s.host = [] → u = s) ∧ t = (u.withBank (s.bankAfter q)).withSeq (seqAt s.cfg.n q)

theorem State.transmits_start {s : State} (hn : 0 < s.cfg.n) : s.Transmits 0 (s.withSeq (.shift 0 0 .clkLow)) :=
  ⟨s, s.hostOnly_refl, fun _ => rfl, by rw [seqAt_start hn]; rfl⟩

/-- What the host side does after the block's own updates it may as well do before them. -/
theorem State.HostOnly.before {s u w : State} {b : Bank} {x : Seq} (hu : s.HostOnly u)
    (hw : ((u.withBank b).withSeq x).HostOnly w) : ∃ u', s.HostOnly u' ∧ w = (u'.withBank b).withSeq x ∧
      (u = s → w = (u.withBank b).withSeq x → u' = s) := by
  obtain ⟨r, m, v, hs, hsize, hwf, rfl⟩ := hu
  obtain ⟨r', m', v', hs', hsize', hwf', rfl⟩ := hw
  refine ⟨_, ⟨r', m', v', hs', hsize'.trans hsize, hwf' ∘ hwf, rfl⟩, rfl, fun hus hw => ?_⟩
  exact (congrArg (fun y : State => (y.withBank s.bank).withSeq s.seq) hw).trans hus

/-- One step of a block in flight: the host's input lands, and the next event of the frame is made (R195, R196). -/
theorem State.Transmits.step_next {s t : State} {q : Nat} (hframe : s.scan.frame.length = s.cfg.n)
    (hq : q < 24 * s.cfg.n + 2) (h : s.Transmits q t) : ∃ t', step t = .next t' ∧ s.Transmits (q + 1) t' := by
  obtain ⟨u, hu, hsilent, rfl⟩ := h
  obtain ⟨hset, hidle, hcompute⟩ := seqAt_inFlight hq
  have hbusy : ((u.withBank (s.bankAfter q)).withSeq (seqAt s.cfg.n q)).busy = true :=
    State.busy_eq_true_iff.mpr ⟨hset, hidle⟩
  obtain ⟨u', hu', hland, hback⟩ := hu.before (State.landNext_hostOnly hbusy)
  have hcfg := hu'.cfg_eq
  have hscan := hu'.scan_eq
  have hpar := hu'.par_eq
  obtain ⟨l, v, hev, hstep⟩ := State.blockStep_at (s := (u'.withBank (s.bankAfter q)).withSeq (seqAt s.cfg.n q)) (q := q)
    (by simpa [hcfg, hscan] using hframe) (by simpa [hcfg] using hq) (by simp [hcfg])
  refine ⟨_, by rw [step_of_busy hcompute hbusy, hland, hstep], u', hu', fun hnil => ?silent, ?event⟩
  case silent =>
    have hus := hsilent hnil
    exact hback hus (State.landNext_of_nil (by rw [hus]; exact hnil))
  case event =>
    rw [State.bankAfter_succ (hscan ▸ hev), ← hpar, ← hcfg]
    rfl

theorem runSteps_succ_right {q : Nat} {s t u : State} (hrun : runSteps q s = .next t) (hstep : step t = .next u) :
    runSteps (q + 1) s = .next u := by
  rw [runSteps_add 1 q hrun, runSteps_succ hstep, runSteps_zero]

/-- The step at COMPUTE (R195). -/
theorem step_renderFrame {s : State} (hs : s.seq = .compute) (hg : s.byteGrain = false) (hlen : s.len ≤ s.input.size) :
    step s = .next ((s.renderFrame s.input.bytes s.len).withSeq (.shift 0 0 .clkLow)) := by
  have hlen' : s.len ≤ s.input.bytes.length := s.input.bytes_length.symm ▸ hlen
  rw [step_compute hs hg, State.blockStep_of_issue (State.issue_compute hs hlen) (exec_renderframe_of_le hlen' s)]

/-- The state whose frame a block at COMPUTE sends. -/
def State.computed (s : State) : State := s.renderFrame s.input.bytes s.len

/-- What a run from COMPUTE needs: COMPUTE in one step, a digit, and a request within its buffer. -/
structure State.AtCompute (s : State) : Prop where
  seq : s.seq = .compute
  oneStep : s.byteGrain = false
  digits : 0 < s.cfg.n
  length : s.len ≤ s.input.size
  frame : s.scan.frame.length = s.cfg.n

namespace State.AtCompute
variable {s : State}

theorem computed_frame_length (h : s.AtCompute) : s.computed.scan.frame.length = s.computed.cfg.n :=
  renderScan_frame_length h.frame

theorem busy (h : s.AtCompute) : s.busy = true := by rw [State.busy, h.seq]

/-- After the step of COMPUTE every step makes the next event of the frame, whatever the host does. -/
theorem run (h : s.AtCompute) {q : Nat} (hq : q ≤ 24 * s.cfg.n + 2) :
    ∃ t, runSteps (q + 1) s = .next t ∧ s.computed.Transmits q t := by
  induction q with
  | zero =>
    exact ⟨_, runSteps_succ_right (runSteps_zero s) (step_renderFrame h.seq h.oneStep h.length),
      State.transmits_start (s := s.computed) h.digits⟩
  | succ q ih =>
    obtain ⟨t, hrun, ht⟩ := ih (by omega)
    obtain ⟨t', hstep, ht'⟩ := ht.step_next h.computed_frame_length (Nat.lt_of_succ_le hq)
    exact ⟨t', runSteps_succ_right hrun hstep, ht'⟩

end State.AtCompute

end Sys2Proof.Machine
end

section
/-! PROOFS. Runs of the sequencer (R193 to R196, R245): what a whole transmission does, with the host silent, with any host, and
for a transaction on the port; and COMPUTE byte by byte. -/

namespace Sys2Proof.Machine

/-! ### A state of the transmission -/

namespace State.Transmits
variable {s t : State} {q : Nat}

theorem seq_eq (h : s.Transmits q t) : t.seq = seqAt s.cfg.n q := by
  obtain ⟨u, -, -, rfl⟩ := h
  rfl

theorem bank_eq (h : s.Transmits q t) : t.bank = s.bankAfter q := by
  obtain ⟨u, -, -, rfl⟩ := h
  rfl

theorem scan_eq (h : s.Transmits q t) : t.scan = s.scan := by
  obtain ⟨u, hu, -, rfl⟩ := h
  exact hu.scan_eq

theorem eq_of_silent (h : s.Transmits q t) (hs : s.host = []) : t = (s.withBank (s.bankAfter q)).withSeq (seqAt s.cfg.n q) := by
  obtain ⟨u, -, hsilent, rfl⟩ := h
  rw [hsilent hs]

theorem busy (h : s.Transmits q t) (hq : q < 24 * s.cfg.n + 2) : t.busy = true := by
  obtain ⟨hset, hidle, -⟩ := seqAt_inFlight hq
  exact State.busy_eq_true_iff.mpr (h.seq_eq ▸ ⟨hset, hidle⟩)

theorem idle (h : s.Transmits (24 * s.cfg.n + 2) t) : t.seq = .idle := h.seq_eq.trans (seqAt_idle s.cfg.n)

end State.Transmits

/-! ### The host silent -/

namespace State.AtCompute
variable {s : State}

theorem busy_run (h : s.AtCompute) {q : Nat} (hq : q < 24 * s.cfg.n + 3) : ∃ t, runSteps q s = .next t ∧ t.busy = true := by
  cases q with
  | zero => exact ⟨s, rfl, h.busy⟩
  | succ q =>
    obtain ⟨t, hrun, ht⟩ := h.run (q := q) (by omega)
    exact ⟨t, hrun, ht.busy (Nat.lt_of_succ_lt_succ hq)⟩

/-- With the host silent the steps of R195 end in the state that the pseudocode of R150 gives. -/
theorem run_complete (h : s.AtCompute) (hs : s.host = []) : runSteps (24 * s.cfg.n + 3) s = .next s.complete := by
  obtain ⟨t, hrun, ht⟩ := h.run (Nat.le_refl _)
  have hbank : s.computed.bankAfter (24 * s.cfg.n + 2) = s.computed.bank.transmit s.par.chainBits s.computed.scan.frame :=
    State.bankAfter_all h.computed_frame_length (Nat.le_refl _)
  have hseq : seqAt s.computed.cfg.n (24 * s.cfg.n + 2) = .idle := seqAt_idle s.cfg.n
  rw [hrun, ht.eq_of_silent hs, hbank, hseq]
  rfl

end State.AtCompute

/-- Settles O43. -/
theorem sequencerRunsTheTransmission : Obligations.SequencerRunsTheTransmission := by
  intro s hseq hgrain hhost hn hlen hframe
  have h : s.AtCompute := ⟨hseq, hgrain, hn, hlen, hframe⟩
  refine ⟨⟨s.computed.scan, s.bank.transmit s.par.chainBits s.computed.scan.frame, ?render, ?transmit, ?run⟩,
    fun q hq => h.busy_run hq⟩
  case render => exact exec_renderframe_of_le (s.input.bytes_length.symm ▸ hlen) s
  case transmit => exact exec_transmitframe_of_length h.computed_frame_length
  case run =>
    rw [h.run_complete hhost]
    rfl

/-! ### Any host -/

theorem State.Inv.atCompute {s : State} (h : s.Inv) (hs : s.seq = .compute) (hg : s.byteGrain = false) : s.AtCompute :=
  ⟨hs, hg, h.digits_pos hs, h.length, h.frame⟩

/-- Settles O45: at every point of the transmission SEQ, the working registers and the line side are those of
`State.Transmits`, which do not depend on the host. -/
theorem hostCannotDisturbATransmission : Obligations.HostCannotDisturbATransmission := by
  intro s hs hs' q hinv hseq hgrain hq
  have h : (s.withHost hs).AtCompute := (hinv.hostOnly (s.hostOnly_withHost hs)).atCompute hseq hgrain
  have h' : (s.withHost hs').AtCompute := (hinv.hostOnly (s.hostOnly_withHost hs')).atCompute hseq hgrain
  cases q with
  | zero => exact ⟨_, _, rfl, rfl, fun _ => h.busy, fun hz => by omega, rfl, rfl, rfl⟩
  | succ q =>
    obtain ⟨t, hrun, ht⟩ := h.run (q := q) (Nat.le_of_succ_le_succ hq)
    obtain ⟨t', hrun', ht'⟩ := h'.run (q := q) (Nat.le_of_succ_le_succ hq)
    refine ⟨t, t', hrun, hrun', fun hlt => ht.busy (Nat.lt_of_succ_lt_succ hlt), fun hlast => ?_,
      ht.seq_eq.trans ht'.seq_eq.symm, ht.scan_eq.trans ht'.scan_eq.symm, ht.bank_eq.trans ht'.bank_eq.symm⟩
    obtain rfl : q = 24 * s.cfg.n + 2 := by omega
    exact ht.idle

/-! ### The latch along a transmission -/

theorem Bank.replay_latch {es : List Event} (hes : ∀ e ∈ es, e.1 ≠ .strobe) (cb : Nat) (b : Bank) :
    (Bank.replay cb es b).latch = b.latch := by
  induction es generalizing b with
  | nil => rfl
  | cons e es ih =>
    obtain ⟨he, hes⟩ := List.forall_mem_cons.mp hes
    rw [Bank.replay, ih hes, Bank.setLine_latch_of_no_strobe_rise fun h => he h.1]

theorem State.bankAfter_of_le {s : State} (hframe : s.scan.frame.length = s.cfg.n) {q : Nat} (hq : q ≤ 24 * s.cfg.n) :
    s.bankAfter q =
      Bank.replay s.par.chainBits (((stream s.scan.frame).flatMap bitCell).take q) s.bank := by
  rw [State.bankAfter, frameEvents_eq_bitCells,
    List.take_append_of_le_length (by rw [bitCells_length, stream_length, hframe]; omega)]

/-- The bit cells leave the latch (R242). -/
theorem State.bankAfter_latch {s : State} (hframe : s.scan.frame.length = s.cfg.n) {q : Nat} (hq : q ≤ 24 * s.cfg.n) :
    (s.bankAfter q).latch = s.bank.latch := by
  rw [State.bankAfter_of_le hframe hq]
  refine Bank.replay_latch (fun e he => ?_) _ _
  rcases bitCells_line (List.mem_of_mem_take he) with h | h <;> simp [h]

theorem State.bankAfter_bits {s : State} (hframe : s.scan.frame.length = s.cfg.n) :
    s.bankAfter (24 * s.cfg.n) = s.bank.sendBits s.par.chainBits (stream s.scan.frame) := by
  rw [State.bankAfter_of_le hframe (Nat.le_refl _),
    List.take_of_length_le (by rw [bitCells_length, stream_length, hframe]; omega), Bank.replay_bitCells]

/-- The rising STROBE latches the whole frame, where the chain is as long as the frame (R245). -/
theorem State.bankAfter_latch_commit {s : State} (hframe : s.scan.frame.length = s.cfg.n)
    (hshift : s.bank.shift.length = s.par.chainBits) (hstrobe : s.bank.lv.strobe = false)
    (hchain : s.par.chainBits = 8 * s.cfg.n) {q : Nat} (hlo : 24 * s.cfg.n + 1 ≤ q) (hhi : q ≤ 24 * s.cfg.n + 2) :
    (s.bankAfter q).latch = (stream s.scan.frame).reverse := by
  have hlen : s.par.chainBits = (stream s.scan.frame).reverse.length := by
    rw [List.length_reverse, stream_length, hframe, hchain]
  obtain rfl | rfl : q = 24 * s.cfg.n + 1 ∨ q = 24 * s.cfg.n + 2 := by omega
  · have hlow : (s.bank.sendBits s.par.chainBits (stream s.scan.frame)).lv.strobe = false := by
      rw [Bank.sendBits_lv]; exact hstrobe
    have hrise := (frameEvents_getElem?_commit s.scan.frame).1
    rw [hframe] at hrise
    rw [State.bankAfter_succ hrise, State.bankAfter_bits hframe, Bank.setLine_latch_of_strobe_rise hlow,
      Bank.sendBits_eq _ _ _ hshift.le]
    exact List.take_left' hlen.symm
  · rw [State.bankAfter_all hframe (Nat.le_refl _), Bank.transmit_eq _ _ _ hshift.le]
    simp only [hstrobe, Bool.false_eq_true, if_false]
    exact List.take_left' hlen.symm

/-- Settles O47. -/
theorem latchChangesOnceAtTheCommit : Obligations.LatchChangesOnceAtTheCommit := by
  intro s t q hinv hseq hgrain hstrobe hchain hrun
  have h := hinv.atCompute hseq hgrain
  cases q with
  | zero =>
    obtain rfl := Host.Outcome.next.inj hrun
    exact ⟨fun _ => rfl, fun hlo => by omega⟩
  | succ q =>
    have transmits (hq : q ≤ 24 * s.cfg.n + 2) : s.computed.Transmits q t := by
      obtain ⟨t', hrun', ht'⟩ := h.run hq
      obtain rfl := Host.Outcome.next.inj (hrun.symm.trans hrun')
      exact ht'
    refine ⟨fun hq => ?kept, fun hlo hhi => ?latched⟩
    case kept =>
      rw [(transmits (by omega)).bank_eq]
      exact State.bankAfter_latch h.computed_frame_length (Nat.le_of_succ_le_succ hq)
    case latched =>
      have ht := transmits (by omega)
      rw [ht.bank_eq, ht.scan_eq]
      exact State.bankAfter_latch_commit h.computed_frame_length hinv.shiftBits hstrobe hchain (Nat.le_of_succ_le_succ hlo)
        (Nat.le_of_succ_le_succ hhi)

/-! ### A transaction on the port -/

/-- Why a presented transaction is refused, if it is. -/
def State.txnRefusal (s : State) : Txn → Option (List Reason)
  | .setup => s.setupRefusal
  | .render buf len => s.renderRefusal buf len
  | .hostwrite buf => s.renderRefusal buf (hostLength s.cfg s.par buf)

/-- A refused transaction is answered on the port as by its exec (R260, log 25). -/
theorem State.present_refused {s : State} {x : Txn} {rs : List Reason} (h : s.txnRefusal x = some rs) :
    s.present x = s.refuse rs ∧ exec x.instr s = .next (s.refuse rs) := by
  cases x with
  | setup => exact ⟨State.runSetup_of_refusal h, congrArg Host.Outcome.next (State.runSetup_of_refusal h)⟩
  | render buf len =>
    rw [State.txnRefusal] at h
    exact ⟨by rw [State.present, State.presentRender, h], congrArg Host.Outcome.next (State.runRender_of_refusal h)⟩
  | hostwrite buf =>
    rw [State.txnRefusal] at h
    exact ⟨by rw [State.present, State.presentRender, h], congrArg Host.Outcome.next (State.runRender_of_refusal h)⟩

/-- A Render within its buffer, and any HostWrite, is accepted on the port of an idle READY block, and its exec completes what
the port accepts. -/
theorem State.present_accepted {s : State} (hs : s.seq = .idle) (hr : s.ready = true) {x : Txn}
    (hx : (∃ buf len, x = .render buf len ∧ len ≤ buf.length) ∨ ∃ buf, x = .hostwrite buf) :
    ∃ buf len, len ≤ buf.length ∧ s.present x = s.accept buf len ∧ exec x.instr s = .next (s.accept buf len).complete := by
  rcases hx with ⟨buf, len, rfl, hlen⟩ | ⟨buf, rfl⟩
  · exact ⟨buf, len, hlen, by rw [State.present, State.presentRender, State.renderRefusal_none.mpr ⟨hs, hr, hlen⟩],
      exec_render_accepted hs hr hlen⟩
  · have hlen := hostLength_le_length s.cfg s.par buf
    exact ⟨buf, _, hlen, by rw [State.present, State.presentRender, State.renderRefusal_none.mpr ⟨hs, hr, hlen⟩],
      exec_hostwrite_accepted hs hr buf⟩

/-- What is not refused finds the block not set up, for a Setup, or idle and READY. -/
theorem State.txnRefusal_none {s : State} {x : Txn} (h : s.txnRefusal x = none) :
    (x = .setup ∧ s.seq = .unconfigured) ∨
      (x ≠ .setup ∧ s.seq = .idle ∧ s.ready = true ∧ ∀ buf len, x = .render buf len → len ≤ buf.length) := by
  cases x with
  | setup =>
    obtain ⟨-, -, hs⟩ := State.setupRefusal_none.mp h
    exact .inl ⟨rfl, hs⟩
  | render buf len =>
    obtain ⟨hs, hr, hlen⟩ := State.renderRefusal_none.mp h
    exact .inr ⟨by simp, hs, hr, fun _ _ e => by cases e; exact hlen⟩
  | hostwrite buf =>
    obtain ⟨hs, hr, -⟩ := State.renderRefusal_none.mp h
    exact .inr ⟨by simp, hs, hr, fun _ _ e => nomatch e⟩

/-! The port reads no input that is still to come. -/

theorem State.runSetup_withHost (s : State) (hs : List HostInput) : (s.withHost hs).runSetup = s.runSetup.withHost hs := by
  rcases s.runSetup_cases with ⟨rs, hrefusal, e⟩ | ⟨hv, hr, hseq, e⟩
  · rw [e, State.runSetup_of_refusal (s := s.withHost hs) hrefusal]
    rfl
  · rw [e, State.runSetup_accepted (s := s.withHost hs) hv hr hseq]
    rfl

theorem State.presentRender_withHost (s : State) (hs : List HostInput) (buf : List Byte) (len : Nat) :
    (s.withHost hs).presentRender buf len = (s.presentRender buf len).withHost hs := by
  rcases s.presentRender_cases buf len with ⟨rs, hrefusal, e⟩ | ⟨hseq, hr, hlen, e⟩
  · have hrefusal' : (s.withHost hs).renderRefusal buf len = some rs := hrefusal
    rw [e, State.presentRender, hrefusal']
    rfl
  · have hrefusal' : (s.withHost hs).renderRefusal buf len = none := State.renderRefusal_none.mpr ⟨hseq, hr, hlen⟩
    rw [e, State.presentRender, hrefusal']
    rfl

theorem State.present_withHost (s : State) (hs : List HostInput) (x : Txn) :
    (s.withHost hs).present x = (s.present x).withHost hs := by
  cases x with
  | setup => exact s.runSetup_withHost hs
  | render buf len => exact s.presentRender_withHost hs buf len
  | hostwrite buf => exact s.presentRender_withHost hs buf _

theorem State.landNext_present {s : State} {x : Txn} (h : s.host = [.present x]) :
    s.landNext = (s.withHost []).present x := by
  rw [State.landNext_of_cons h, State.present_withHost]
  rfl

/-- Settles O44. -/
theorem presentedRenderEqualsExec : Obligations.PresentedRenderEqualsExec := by
  intro s x hhost
  have hland := State.landNext_present hhost
  refine ⟨fun hs hr hg hn hframe hx => ?accepted, fun hb hx => ?answered, fun hb hs => ?inFlight⟩
  case accepted =>
    obtain ⟨buf, len, hlen, hpresent, hex⟩ := State.present_accepted (s := s.withHost []) hs hr hx
    have hstep : step s = .next ((s.withHost []).accept buf len) := by
      rw [step_of_not_busy (State.busy_eq_false_iff.mpr (.inr hs)), hland, hpresent]
    have h : ((s.withHost []).accept buf len).AtCompute := ⟨rfl, hg, hn, hlen, hframe⟩
    rw [runSteps_succ hstep]
    exact (h.run_complete rfl).trans hex.symm
  case answered =>
    rw [step_of_not_busy hb, hland]
    cases hrefusal : (s.withHost []).txnRefusal x with
    | some rs =>
      obtain ⟨hpresent, hex⟩ := State.present_refused hrefusal
      rw [hpresent]
      exact hex.symm
    | none =>
      rcases State.txnRefusal_none hrefusal with ⟨rfl, -⟩ | ⟨hne, hidle, hr, hlen⟩
      · rfl
      · rcases hx with hx | hx | hx | ⟨buf, len, rfl, hlong⟩
        · exact absurd hx hne
        · exact absurd (hx.symm.trans hidle) (by decide)
        · exact absurd (hx.symm.trans hr) (by decide)
        · exact absurd (hlen buf len rfl) (Nat.not_le.mpr hlong)
  case inFlight =>
    obtain ⟨hset, hidle⟩ := State.busy_eq_true_iff.mp hb
    cases hrefusal : (s.withHost []).txnRefusal x with
    | some rs =>
      obtain ⟨hpresent, hex⟩ := State.present_refused hrefusal
      refine ⟨rs, hex, ?_⟩
      rw [step_of_busy hs hb, hland, hpresent]
      exact (step_busy_silent (s := (s.withHost []).refuse rs) rfl hs hb).symm
    | none =>
      rcases State.txnRefusal_none hrefusal with ⟨-, h⟩ | ⟨-, h, -⟩
      · exact absurd h hset
      · exact absurd h hidle

/-! ### COMPUTE byte by byte (log 11) -/

theorem Memory.bytes_getD {m : Memory} {a : Nat} (h : a < m.size) : m.read a = some (m.bytes.getD a 0x00#8) := by
  rw [← Memory.bytes_getElem?, List.getD_eq_getElem?_getD, List.getElem?_eq_getElem (m.bytes_length.symm ▸ h),
    Option.getD_some]

theorem scanLoop_succ_of_lt {n i : Nat} {table : List Pattern} {ws buf : List Byte} {r : Scan} (h : r.count < n) :
    scanLoop n table ws buf (i + 1) r = scanLoop n table ws buf i (r.step table (classify ws (buf.getD i 0x00#8))) := if_pos h

/-- The byte steps of COMPUTE are the loop of R156, one byte a step, and one step more for the padding. -/
theorem runSteps_byteGrain {i : Nat} : ∀ {s : State}, s.seq = .compute → s.byteGrain = true → s.scan.i = i →
    i ≤ s.input.size → ∃ q, q ≤ i + 1 ∧ runSteps q s =
      .next ((s.withScan ((scanLoop s.cfg.n s.table s.par.whitespace s.input.bytes i s.scan).pad s.cfg.n)).withSeq
        (.shift 0 0 .clkLow)) := by
  induction i with
  | zero =>
    intro s hs hg hi _
    have hstop : s.scan.goesOn s.cfg.n = false := by simp [Scan.goesOn, hi]
    refine ⟨1, Nat.le_refl _, ?_⟩
    exact runSteps_succ_right (runSteps_zero s) ((step_byteGrain hs hg).trans (State.byteStep_of_stopped hstop))
  | succ i ih =>
    intro s hs hg hi hsize
    by_cases hcount : s.scan.count < s.cfg.n
    · have hgo : s.scan.goesOn s.cfg.n = true := Scan.goesOn_iff.mpr ⟨hcount, by omega⟩
      have hread : s.input.read (s.scan.i - 1) = some (s.input.bytes.getD i 0x00#8) := by
        rw [hi, Nat.add_sub_cancel, Memory.bytes_getD hsize]
      have hstep := (step_byteGrain hs hg).trans ((State.byteStep_of_read hgo hread).trans (exec_decodeByte s _))
      rw [State.scanStep_of_goesOn hgo] at hstep
      obtain ⟨q, hq, hrun⟩ := ih (s := s.withScan (s.scan.step s.table (classify s.par.whitespace
        (s.input.bytes.getD i 0x00#8)))) hs hg (by simp [hi]) (Nat.le_of_succ_le hsize)
      refine ⟨q + 1, Nat.succ_le_succ hq, ?_⟩
      rw [runSteps_succ hstep, hrun, scanLoop_succ_of_lt hcount]
      rfl
    · have hstop : s.scan.goesOn s.cfg.n = false := by simp [Scan.goesOn, hcount]
      refine ⟨1, by omega, ?_⟩
      rw [scanLoop_full (Nat.not_lt.mp hcount)]
      exact runSteps_succ_right (runSteps_zero s) ((step_byteGrain hs hg).trans (State.byteStep_of_stopped hstop))

theorem Scan.start_eq_self {r : Scan} {len : Nat} (hi : r.i = len) (hdot : r.dot = false) (hcount : r.count = 0) :
    r.start len = r := by
  cases r
  simp_all [Scan.start, dotAtStart]

/-- Settles O46. -/
theorem byteByByteComputeAgrees : Obligations.ByteByByteComputeAgrees := by
  intro s hs hg hlen hi hdot hcount
  obtain ⟨q, hq, hrun⟩ := runSteps_byteGrain hs hg hi hlen
  refine ⟨q, _, hq, exec_renderframe_of_le (s.input.bytes_length.symm ▸ hlen) s, ?_⟩
  rw [hrun, renderScan, Scan.start_eq_self hi hdot hcount]
  rfl

end Sys2Proof.Machine
end

section
/-! PROOFS. renderFrame (42_renderer.md section 2): its N patterns, the frame in text terms, and what the frame depends on
(R156 to R166). -/

namespace Sys2Proof.Machine

theorem exec_renderframe_next {buf : List Byte} {len : Nat} {s t : State} (h : exec (.renderframe buf len) s = .next t) :
    len ≤ buf.length ∧ t = s.renderFrame buf len := by
  by_cases hlen : len ≤ buf.length
  · rw [exec_renderframe_of_le hlen] at h
    exact ⟨hlen, (Host.Outcome.next.inj h).symm⟩
  · rw [exec_renderframe_of_gt (Nat.not_le.mp hlen)] at h
    cases h

/-! ### Where the scan stops, and the padding -/

section Loop
variable {n : Nat} {table : List Pattern} {ws buf : List Byte}

theorem scanLoop_count_ge {i : Nat} {r : Scan} : r.count ≤ (scanLoop n table ws buf i r).count := by
  induction i generalizing r with
  | zero => exact Nat.le_refl _
  | succ i ih =>
    by_cases h : r.count < n
    · rw [scanLoop_succ_of_lt h]
      refine Nat.le_trans ?_ ih
      rw [Scan.step_count]
      split <;> omega
    · rw [scanLoop_full (Nat.not_lt.mp h)]

/-- The scan stops at a full window or at the buffer's start (R156). -/
theorem scanLoop_stops {i : Nat} {r : Scan} (hi : r.i = i) (hcount : r.count ≤ n) :
    (scanLoop n table ws buf i r).count = n ∨ (scanLoop n table ws buf i r).i = 0 := by
  induction i generalizing r with
  | zero => exact .inr hi
  | succ i ih =>
    by_cases h : r.count < n
    · rw [scanLoop_succ_of_lt h]
      exact ih (by rw [Scan.step_i, hi, Nat.add_sub_cancel]) (Scan.step_count_le _ _ _ h)
    · rw [scanLoop_full (Nat.not_lt.mp h)]
      exact .inl (by omega)

end Loop

theorem Scan.pad_getElem?_below {n q : Nat} {r : Scan} (hcount : r.count ≤ r.frame.length) (hq : q < r.count) :
    (r.pad n).frame[q]? = r.frame[q]? := by
  rw [Scan.pad, List.getElem?_append_left (by rw [List.length_take]; omega), List.getElem?_take_of_lt hq]

theorem Scan.pad_getElem?_blank {n q : Nat} {r : Scan} (hcount : r.count ≤ r.frame.length) (hlo : r.count ≤ q) (hhi : q < n) :
    (r.pad n).frame[q]? = some 0x00#8 := by
  have hlen : (r.frame.take r.count).length = r.count := by rw [List.length_take]; omega
  rw [Scan.pad, List.getElem?_append_right (by omega), hlen, List.getElem?_replicate, if_pos (by omega)]

/-- Settles O31. -/
theorem renderFrameYieldsNPatterns : Obligations.RenderFrameYieldsNPatterns := by
  intro s buf len hframe hlen
  refine ⟨_, exec_renderframe_of_le hlen s, renderScan_frame_length hframe, renderScan_count_le, renderScan_i_le,
    scanLoop_stops rfl (Nat.zero_le _), fun q hlo hhi => Scan.pad_getElem?_blank ?_ hlo hhi⟩
  rw [scanLoop_frame_length, Scan.start_frame, hframe]
  exact renderScan_count_le

/-! ### The frame, slot by slot -/

/-- Slot `t` of what a scan from position `i` with the pending dot `dot` has still to emit. -/
def frameSlot (table : List Pattern) (ws buf : List Byte) : Nat → Bool → Nat → Pattern
  | 0, _, _ => 0x00#8
  | i + 1, dot, t =>
    match classAt ws buf i with
    | .dot => frameSlot table ws buf i true t
    | .unsupported => frameSlot table ws buf i dot t
    | .idx k =>
      match t with
      | 0 => lookup table k ||| dotMask dot
      | t + 1 => frameSlot table ws buf i false t

section FrameSlot
variable {table : List Pattern} {ws buf : List Byte} {i : Nat}

theorem frameSlot_of_dot (h : classAt ws buf i = .dot) (dot : Bool) (t : Nat) :
    frameSlot table ws buf (i + 1) dot t = frameSlot table ws buf i true t := by
  rw [frameSlot, h]

theorem frameSlot_of_unsupported (h : classAt ws buf i = .unsupported) (dot : Bool) (t : Nat) :
    frameSlot table ws buf (i + 1) dot t = frameSlot table ws buf i dot t := by
  rw [frameSlot, h]

theorem frameSlot_of_idx_zero {k : Nat} (h : classAt ws buf i = .idx k) (dot : Bool) :
    frameSlot table ws buf (i + 1) dot 0 = lookup table k ||| dotMask dot := by
  rw [frameSlot, h]

theorem frameSlot_of_idx_succ {k : Nat} (h : classAt ws buf i = .idx k) (dot : Bool) (t : Nat) :
    frameSlot table ws buf (i + 1) dot (t + 1) = frameSlot table ws buf i false t := by
  rw [frameSlot, h]

end FrameSlot

section Loop
variable {n : Nat} {table : List Pattern} {ws buf : List Byte}

/-- The scan writes no slot that is filled already. -/
theorem scanLoop_getElem?_below {i q : Nat} {r : Scan} (hq : q < r.count) :
    (scanLoop n table ws buf i r).frame[q]? = r.frame[q]? := by
  induction i generalizing r with
  | zero => rfl
  | succ i ih =>
    by_cases h : r.count < n
    · rw [scanLoop_succ_of_lt h]
      cases classify ws (buf.getD i 0x00#8) with
      | dot => exact ih hq
      | unsupported => exact ih hq
      | idx k =>
        rw [ih (Nat.lt_succ_of_lt hq), Scan.step_of_idx, List.getElem?_set_ne hq.ne']
    · rw [scanLoop_full (Nat.not_lt.mp h)]

/-- What the scan and the padding put into the slots from `count` on. -/
theorem scanLoop_pad_getElem? {i t : Nat} {r : Scan} (hframe : r.frame.length = n) (ht : r.count + t < n) :
    ((scanLoop n table ws buf i r).pad n).frame[r.count + t]? = some (frameSlot table ws buf i r.dot t) := by
  induction i generalizing r t with
  | zero => exact Scan.pad_getElem?_blank (r := r) (by omega) (Nat.le_add_right _ _) ht
  | succ i ih =>
    rw [scanLoop_succ_of_lt (by omega)]
    cases hcls : classify ws (buf.getD i 0x00#8) with
    | dot => rw [frameSlot_of_dot hcls]; exact ih (r := r.step table .dot) hframe ht
    | unsupported => rw [frameSlot_of_unsupported hcls]; exact ih (r := r.step table .unsupported) hframe ht
    | idx k =>
      have hframe' : (r.step table (.idx k)).frame.length = n := by rw [Scan.step_frame_length, hframe]
      cases t with
      | zero =>
        rw [frameSlot_of_idx_zero hcls, Nat.add_zero]
        have hfilled : r.count < (r.step table (.idx k)).count := Nat.lt_succ_self _
        rw [Scan.pad_getElem?_below, scanLoop_getElem?_below hfilled, Scan.step_of_idx]
        · exact List.getElem?_set_self (by omega)
        · rw [scanLoop_frame_length, hframe']
          exact scanLoop_count_le _ _ (Nat.succ_le_of_lt (by omega))
        · exact hfilled.trans_le scanLoop_count_ge
      | succ t =>
        rw [frameSlot_of_idx_succ hcls, ← Nat.add_assoc, Nat.add_right_comm]
        exact ih (r := r.step table (.idx k)) hframe' (by change r.count + 1 + t < n; omega)

theorem renderScan_getElem? {len t : Nat} {r : Scan} (hframe : r.frame.length = n) (ht : t < n) :
    (renderScan n table ws buf len r).frame[t]? = some (frameSlot table ws buf len false t) := by
  have h := scanLoop_pad_getElem? (table := table) (ws := ws) (buf := buf) (i := len) (t := t) (r := r.start len) hframe
    (by rw [Scan.start_count]; omega)
  rwa [Scan.start_count, Nat.zero_add] at h

end Loop

/-! ### Text terms (R159) -/

theorem or_dotMask (p : Pattern) (a b : Bool) : p ||| dotMask a ||| dotMask b = p ||| dotMask (a || b) := by
  rw [BitVec.or_assoc]
  cases a <;> cases b <;> rfl

/-- The position of the t-th supported byte from the right, below `i`. -/
def slotPosition (ws buf : List Byte) (i t : Nat) : Nat :=
  (supportedPositions ws buf i).getD ((supportedPositions ws buf i).length - 1 - t) 0

/-- The right end of the gap of that byte. -/
def slotRight (ws buf : List Byte) (i t : Nat) : Nat :=
  if t = 0 then i else (supportedPositions ws buf i).getD ((supportedPositions ws buf i).length - t) 0

section Text
variable {table : List Pattern} {ws buf : List Byte} {i t : Nat}

theorem textSlot_of_lt (h : t < (supportedPositions ws buf i).length) :
    textSlot table ws buf i t =
      lookup table (classIndex (classAt ws buf (slotPosition ws buf i t))) |||
        dotMask (dotBetween ws buf (slotPosition ws buf i t) (slotRight ws buf i t)) := if_pos h

theorem textSlot_of_ge (h : (supportedPositions ws buf i).length ≤ t) : textSlot table ws buf i t = 0x00#8 :=
  if_neg (Nat.not_lt.mpr h)

theorem slotRight_zero : slotRight ws buf i 0 = i := rfl

/-- The gap of a byte ends at the next supported byte to the right. -/
theorem slotRight_succ : slotRight ws buf i (t + 1) = slotPosition ws buf i t := by
  rw [slotRight, if_neg (Nat.succ_ne_zero t), slotPosition, Nat.sub_sub, Nat.add_comm 1 t]

theorem supportedPositions_succ :
    supportedPositions ws buf (i + 1) =
      supportedPositions ws buf i ++ if isCharacter (classAt ws buf i) then [i] else [] := by
  rw [supportedPositions, List.range_succ, List.filter_append, List.filter_singleton, Bool.cond_eq_ite]
  rfl

theorem supportedPositions_of_not_character (h : isCharacter (classAt ws buf i) = false) :
    supportedPositions ws buf (i + 1) = supportedPositions ws buf i := by
  rw [supportedPositions_succ, h, if_neg Bool.false_ne_true, List.append_nil]

theorem supportedPositions_of_character (h : isCharacter (classAt ws buf i) = true) :
    supportedPositions ws buf (i + 1) = supportedPositions ws buf i ++ [i] := by
  rw [supportedPositions_succ, if_pos h]

theorem slotPosition_lt (h : t < (supportedPositions ws buf i).length) : slotPosition ws buf i t < i := by
  have hidx : (supportedPositions ws buf i).length - 1 - t < (supportedPositions ws buf i).length := by omega
  rw [slotPosition, List.getD_eq_getElem _ _ hidx]
  have hmem : _ ∈ (List.range i).filter fun q => isCharacter (classAt ws buf q) := List.getElem_mem hidx
  exact List.mem_range.mp (List.mem_filter.mp hmem).1

theorem dotBetween_succ (p : Nat) :
    dotBetween ws buf p (i + 1) = (dotBetween ws buf p i || (decide (p < i) && decide (classAt ws buf i = .dot))) := by
  rw [dotBetween, List.range_succ, List.any_append, List.any_cons, List.any_nil, Bool.or_false]
  rfl

/-- No byte lies strictly between a position and the next one. -/
theorem dotBetween_self_succ : dotBetween ws buf i (i + 1) = false := by
  rw [dotBetween, List.any_eq_false]
  intro q hq
  have hle : q ≤ i := Nat.lt_succ_iff.mp (List.mem_range.mp hq)
  simp [Nat.not_lt.mpr hle]

/-! A byte of a character class at `i` is the first from the right below `i + 1`, and moves the others on by one. -/

section Character
variable (h : isCharacter (classAt ws buf i) = true)
include h

theorem slotPosition_zero_of_character : slotPosition ws buf (i + 1) 0 = i := by
  simp [slotPosition, supportedPositions_of_character h]

theorem slotPosition_succ_of_character (ht : t < (supportedPositions ws buf i).length) :
    slotPosition ws buf (i + 1) (t + 1) = slotPosition ws buf i t := by
  have hidx : (supportedPositions ws buf i).length + 1 - 1 - (t + 1) = (supportedPositions ws buf i).length - 1 - t := by omega
  rw [slotPosition, supportedPositions_of_character h, List.length_append, List.length_singleton, hidx,
    List.getD_append _ _ _ _ (by omega), slotPosition]

theorem slotRight_succ_of_character (ht : t < (supportedPositions ws buf i).length) :
    slotRight ws buf (i + 1) (t + 1) = slotRight ws buf i t := by
  rw [slotRight_succ]
  cases t with
  | zero => rw [slotPosition_zero_of_character h, slotRight_zero]
  | succ t => rw [slotPosition_succ_of_character h (Nat.lt_of_succ_lt ht), slotRight_succ]

theorem length_supportedPositions_of_character :
    (supportedPositions ws buf (i + 1)).length = (supportedPositions ws buf i).length + 1 := by
  rw [supportedPositions_of_character h, List.length_append, List.length_singleton]

theorem textSlot_zero_of_character :
    textSlot table ws buf (i + 1) 0 = lookup table (classIndex (classAt ws buf i)) := by
  rw [textSlot_of_lt (by rw [length_supportedPositions_of_character h]; omega), slotPosition_zero_of_character h, slotRight_zero,
    dotBetween_self_succ, dotMask_false, BitVec.or_zero]

theorem textSlot_succ_of_character : textSlot table ws buf (i + 1) (t + 1) = textSlot table ws buf i t := by
  have hlen := length_supportedPositions_of_character h
  rcases Nat.lt_or_ge t (supportedPositions ws buf i).length with ht | ht
  · rw [textSlot_of_lt (by omega), textSlot_of_lt ht, slotPosition_succ_of_character h ht, slotRight_succ_of_character h ht]
  · rw [textSlot_of_ge (by omega), textSlot_of_ge ht]

end Character

/-- A byte of no character class at `i` leaves the slots but for the gap of the first one, which it may mark with a dot. -/
theorem textSlot_of_not_character (h : isCharacter (classAt ws buf i) = false) :
    textSlot table ws buf (i + 1) t =
      textSlot table ws buf i t |||
        dotMask (decide (t = 0) && decide (0 < (supportedPositions ws buf i).length) && decide (classAt ws buf i = .dot)) := by
  have hpos : slotPosition ws buf (i + 1) t = slotPosition ws buf i t := by
    rw [slotPosition, supportedPositions_of_not_character h, slotPosition]
  have hlen := congrArg List.length (supportedPositions_of_not_character h)
  rcases Nat.lt_or_ge t (supportedPositions ws buf i).length with ht | ht
  · rw [textSlot_of_lt (hlen ▸ ht), textSlot_of_lt ht, hpos, or_dotMask]
    congr 2
    cases t with
    | zero => simp [slotRight_zero, dotBetween_succ, slotPosition_lt ht, ht]
    | succ t =>
      have hpos' : slotPosition ws buf (i + 1) t = slotPosition ws buf i t := by
        rw [slotPosition, supportedPositions_of_not_character h, slotPosition]
      simp [slotRight_succ, hpos']
  · have hnone : (decide (t = 0) && decide (0 < (supportedPositions ws buf i).length)) = false := by
      rw [← Bool.not_eq_true, Bool.and_eq_true, decide_eq_true_iff, decide_eq_true_iff]
      omega
    rw [textSlot_of_ge (hlen ▸ ht), textSlot_of_ge ht, hnone, Bool.false_and, dotMask_false, BitVec.or_zero]

end Text

/-- The scan emits the slots in text terms; the pending dot belongs to the gap of the first of them (R159). -/
theorem frameSlot_eq_textSlot {table : List Pattern} {ws buf : List Byte} {i : Nat} (dot : Bool) (t : Nat) :
    frameSlot table ws buf i dot t =
      textSlot table ws buf i t |||
        dotMask (decide (t = 0) && decide (0 < (supportedPositions ws buf i).length) && dot) := by
  induction i generalizing dot t with
  | zero =>
    rw [textSlot_of_ge (Nat.zero_le _), frameSlot]
    simp [supportedPositions]
  | succ i ih =>
    cases hcls : classAt ws buf i with
    | dot =>
      have hno : isCharacter (classAt ws buf i) = false := by rw [hcls]; rfl
      rw [frameSlot_of_dot hcls, ih, textSlot_of_not_character hno, or_dotMask, supportedPositions_of_not_character hno, hcls]
      rw [← Bool.and_or_distrib_left, decide_eq_true rfl, Bool.true_or]
    | unsupported =>
      have hno : isCharacter (classAt ws buf i) = false := by rw [hcls]; rfl
      rw [frameSlot_of_unsupported hcls, ih, textSlot_of_not_character hno, or_dotMask, supportedPositions_of_not_character hno,
        hcls]
      simp
    | idx k =>
      have hchar : isCharacter (classAt ws buf i) = true := by rw [hcls]; rfl
      cases t with
      | zero =>
        rw [frameSlot_of_idx_zero hcls, textSlot_zero_of_character hchar, length_supportedPositions_of_character hchar, hcls]
        simp [classIndex]
      | succ t =>
        rw [frameSlot_of_idx_succ hcls, ih, textSlot_succ_of_character hchar]
        simp

/-- Settles O32. -/
theorem frameInTextTerms : Obligations.FrameInTextTerms := by
  intro s buf len hframe hlen
  refine ⟨_, exec_renderframe_of_le hlen s, renderScan_frame_length hframe, fun t ht => ?_⟩
  rw [renderScan_getElem? hframe ht, frameSlot_eq_textSlot, Bool.and_false, dotMask_false, BitVec.or_zero]

/-! ### What the frame depends on -/

section Loop
variable {n : Nat} {table : List Pattern} {ws buf buf' : List Byte}

/-- The scan reads the bytes from the position of its stop on, and no others (R156). -/
theorem scanLoop_congr_buf {i : Nat} {r : Scan} (hi : r.i = i)
    (h : ∀ q, (scanLoop n table ws buf i r).i ≤ q → q < i → buf'.getD q 0x00#8 = buf.getD q 0x00#8) :
    scanLoop n table ws buf' i r = scanLoop n table ws buf i r := by
  induction i generalizing r with
  | zero => rfl
  | succ i ih =>
    by_cases hcount : r.count < n
    · rw [scanLoop_succ_of_lt hcount] at h ⊢
      have hi' : ∀ cls, (r.step table cls).i = i := fun cls => by rw [Scan.step_i, hi, Nat.add_sub_cancel]
      have hbyte := h i ((scanLoop_i_le i _).trans (hi' _).le) (Nat.lt_succ_self i)
      rw [scanLoop_succ_of_lt hcount, hbyte]
      exact ih (hi' _) fun q hlo hhi => h q hlo (Nat.lt_succ_of_lt hhi)
    · rw [scanLoop_full (Nat.not_lt.mp hcount), scanLoop_full (Nat.not_lt.mp hcount)]

/-- The scan reads no slot of F. -/
theorem scanLoop_congr_frame {i : Nat} {r r' : Scan} (hi : r.i = r'.i) (hdot : r.dot = r'.dot) (hcount : r.count = r'.count) :
    (scanLoop n table ws buf i r).i = (scanLoop n table ws buf i r').i ∧
      (scanLoop n table ws buf i r).dot = (scanLoop n table ws buf i r').dot ∧
      (scanLoop n table ws buf i r).count = (scanLoop n table ws buf i r').count := by
  induction i generalizing r r' with
  | zero => exact ⟨hi, hdot, hcount⟩
  | succ i ih =>
    by_cases h : r.count < n
    · rw [scanLoop_succ_of_lt h, scanLoop_succ_of_lt (hcount ▸ h)]
      refine ih (by rw [Scan.step_i, Scan.step_i, hi]) (by rw [Scan.step_dot, Scan.step_dot, hdot]) ?_
      rw [Scan.step_count, Scan.step_count, hcount]
    · rw [scanLoop_full (Nat.not_lt.mp h), scanLoop_full (hcount ▸ Nat.not_lt.mp h)]
      exact ⟨hi, hdot, hcount⟩

theorem renderScan_congr_buf {len : Nat} {r : Scan}
    (h : ∀ q, (renderScan n table ws buf len r).i ≤ q → q < len → buf'.getD q 0x00#8 = buf.getD q 0x00#8) :
    renderScan n table ws buf' len r = renderScan n table ws buf len r := by
  rw [renderScan, scanLoop_congr_buf (i := len) (r := r.start len) rfl h, renderScan]

theorem Scan.eq_of_fields {r r' : Scan} (hi : r.i = r'.i) (hdot : r.dot = r'.dot) (hcount : r.count = r'.count)
    (hframe : r.frame = r'.frame) : r = r' := by
  cases r
  cases r'
  simp_all

/-- The former working registers have no effect on those that renderFrame gives (R152, R165). -/
theorem renderScan_congr_scan {len : Nat} {r r' : Scan} (hframe : r.frame.length = n) (hframe' : r'.frame.length = n) :
    renderScan n table ws buf len r = renderScan n table ws buf len r' := by
  obtain ⟨hi, hdot, hcount⟩ := scanLoop_congr_frame (n := n) (table := table) (ws := ws) (buf := buf) (i := len)
    (r := r.start len) (r' := r'.start len) rfl rfl rfl
  refine Scan.eq_of_fields hi hdot hcount (List.ext_getElem? fun t => ?_)
  rcases Nat.lt_or_ge t n with ht | ht
  · rw [renderScan_getElem? hframe ht, renderScan_getElem? hframe' ht]
  · rw [List.getElem?_eq_none (le_of_eq_of_le (renderScan_frame_length hframe) ht),
      List.getElem?_eq_none (le_of_eq_of_le (renderScan_frame_length hframe') ht)]

end Loop

theorem getD_eq_of_take_eq {buf buf' : List Byte} {len : Nat} (h : buf.take len = buf'.take len) {q : Nat} (hq : q < len) :
    buf'.getD q 0x00#8 = buf.getD q 0x00#8 := by
  rw [List.getD_eq_getElem?_getD, List.getD_eq_getElem?_getD, ← List.getElem?_take_of_lt hq (l := buf'), ← h,
    List.getElem?_take_of_lt hq]

/-- Settles O34. -/
theorem unreadBytesHaveNoEffect : Obligations.UnreadBytesHaveNoEffect := by
  intro s t buf buf' len hex hlen' hread
  obtain ⟨-, rfl⟩ := exec_renderframe_next hex
  rw [exec_renderframe_of_le hlen', State.renderFrame, State.renderFrame]
  congr 2
  exact renderScan_congr_buf fun q hlo hhi => by
    rw [List.getD_eq_getElem?_getD, List.getD_eq_getElem?_getD, hread q hlo hhi]

/-- Two blocks of one configuration compute the same working registers from buffers that agree below the length (R165). -/
theorem renderScan_pure {s s' : State} {buf buf' : List Byte} {len : Nat} (hcfg : s.cfg = s'.cfg) (htable : s.table = s'.table)
    (hws : s.par.whitespace = s'.par.whitespace) (hframe : s.scan.frame.length = s.cfg.n)
    (hframe' : s'.scan.frame.length = s'.cfg.n) (hbuf : buf.take len = buf'.take len) :
    renderScan s.cfg.n s.table s.par.whitespace buf len s.scan =
      renderScan s'.cfg.n s'.table s'.par.whitespace buf' len s'.scan := by
  rw [← hcfg] at hframe' ⊢
  rw [← htable, ← hws, renderScan_congr_scan hframe hframe']
  exact (renderScan_congr_buf fun q _ hq => getD_eq_of_take_eq hbuf hq).symm

/-- Settles O33: both Renders send the frame of `renderScan_pure`, which has a last pattern. -/
theorem renderFrameIsPure : Obligations.RenderFrameIsPure := by
  intro s s' t t' buf buf' len hcfg htable hws hframe hframe' hbuf
  have hpure := renderScan_pure hcfg htable hws hframe hframe' hbuf
  refine ⟨fun hex hex' => ?frame, fun hn hs hs' hr hr' hlen hlen' hex hex' => ?render⟩
  case frame =>
    obtain ⟨-, rfl⟩ := exec_renderframe_next hex
    obtain ⟨-, rfl⟩ := exec_renderframe_next hex'
    exact hpure
  case render =>
    rw [exec_render_accepted hs hr hlen, State.complete_accept] at hex
    rw [exec_render_accepted hs' hr' hlen', State.complete_accept, ← hpure] at hex'
    obtain rfl := Host.Outcome.next.inj hex
    obtain rfl := Host.Outcome.next.inj hex'
    have hlength : (renderScan s.cfg.n s.table s.par.whitespace buf len s.scan).frame.length = s.cfg.n :=
      renderScan_frame_length hframe
    obtain ⟨p, hp⟩ : ∃ p, (renderScan s.cfg.n s.table s.par.whitespace buf len s.scan).frame.getLast? = some p :=
      ⟨_, List.getLast?_eq_getLast_of_ne_nil (List.ne_nil_of_length_pos (by omega))⟩
    refine ⟨rfl, ⟨_, Bank.transmit_trace _ _ _, Bank.transmit_trace _ _ _⟩, ?_⟩
    rw [Bank.transmit_lv _ hp, Bank.transmit_lv _ hp]
    exact ⟨rfl, rfl, rfl⟩

end Sys2Proof.Machine
end
